-- ==== Sys2Proof/Config.lean ====
section
/-! DEFINITION. The free values: what the manual leaves open, with no body, so that nothing can be proved
of the choice made. -/

namespace Sys2Proof

/-- The manual says of steps that fall at the same instant that "either may be taken first". The n-th such
choice the model meets is `Config.choice n`, read modulo the number of steps to choose from (logs 3, 7, 8). -/
opaque Config.choice : Nat → Nat

/-- The quotient of R54 for a Pb16 of 0, by the L_dots of the computation. R53 says that the division is always defined,
and so states no quotient for that Pb16 (log 26). -/
opaque Config.quotientByZero : Nat → Nat

/-- A value wrapped to the line period (R10, R57) where the period in ticks, Pb, is 0, by the value before the wrap:
the rules bring it into a range that then holds no number (log 33). -/
opaque Config.wrapByZero : Int → Int

/-- The count of lines between two times, rounded (R13), where the period in ticks, Pb, is 0, by the distance in ticks
(log 33). -/
opaque Config.linesByZero : Int → Int

/-- How many lines close at once at a seek completion (R47) where Pb16 is 0, so that every line of the prediction starts
at the base, by the ticks passed since the base (log 33). -/
opaque Config.closesByZero : Nat → Nat

end Sys2Proof
end

