-- ==== Sys2Proof/Word.lean ====
section
/-! DEFINITION. The word types of the LK30: what the manual treats as bits. -/

namespace Sys2Proof

/-- One byte lane of a bus word, a command code, a small argument. -/
abbrev Byte := BitVec 8

/-- A word of video memory: 16 bits, a low and a high byte lane (00_scope.md, "Cue-area addresses"). -/
abbrev Word := BitVec 16

/-- A timebase value: the free-running 32-bit tick counter, wrapping after 2^32 (00_scope.md, "Time"). -/
abbrev Time := BitVec 32

/-- A word address of video memory. The BASE strap counts 16 blocks of 16,384 words (R158), so 18 bits
number every word (DEDUCED, log 13). -/
abbrev Addr := BitVec 18

end Sys2Proof
end

