-- ==== Sys2Proof/Syntax.lean ====
section
/-! DEFINITION. The commands: one constructor per row of spec/opcode_table.json, with the operands its rule
speaks of. -/

namespace Sys2Proof

/-- A logic level on a pin. -/
inductive Level where
  | low
  | high
  deriving DecidableEq, Repr

/-- The two frame standards (the STD strap and setup word 0x000). -/
inductive Standard where
  | lines625
  | lines525
  deriving DecidableEq, Repr

/-- The byte lanes a bus cycle uses (R160). -/
structure Lanes where
  low : Bool
  high : Bool
  deriving DecidableEq, Repr

/-- What a CPU read carries beside its address: the byte lanes it uses, and the word DRAM drives in it (section 9.1). -/
structure ReadWord where
  word : Word
  lanes : Lanes
  deriving DecidableEq, Repr

/-- What a FETCH# cycle carries beside its address: its direction, the byte lanes it uses, and its data word, which DRAM
returns in a read and the bus drives in a write (section 9.1, R159). -/
structure FetchWord where
  word : Word
  lanes : Lanes
  write : Bool
  deriving DecidableEq, Repr

/-- The steps of the LK30. `now` is the timebase value at which a step is taken, for the rows whose rule
speaks of the timebase (log 1); the rows without it are taken at the present instant. A delivered command
carries the small argument and the argument word it was queued with (R164). -/
inductive Instr where
  /-- POWER_RESET (R51): RESET# samples the straps. -/
  | powerReset (base : BitVec 4) (dclk : BitVec 2) (std : Standard)
  /-- BUS_RESET (R170): assertion of BRESET#. -/
  | busReset
  /-- ACCEPTED_FALL (R1, R3). -/
  | acceptedFall (now : Time)
  /-- ACCEPTED_RISE (R1, R3). -/
  | acceptedRise (now : Time)
  /-- PULSE_SATURATION (R4). -/
  | pulseSaturation (now : Time)
  /-- RECORD_TAKEN (R27): the loop takes the record at the head of the pulse queue. -/
  | recordTaken
  /-- SEEK_COMPLETE (R47). -/
  | seekComplete
  /-- LINE_CLOSE (R33). -/
  | lineClose (now : Time)
  /-- HOLDOVER_EXPIRED (R39). -/
  | holdoverExpired
  /-- LINE_SETTLE (R34). -/
  | lineSettle (now : Time)
  /-- ENGAGE (R22). -/
  | engage (small : Byte) (arg : Word)
  /-- RELEASE (R23). -/
  | release (small : Byte) (arg : Word)
  /-- FREEZE (R24). -/
  | freeze (small : Byte) (arg : Word)
  /-- RESUME (R25). -/
  | resume (small : Byte) (arg : Word)
  /-- ADOPT (R97). -/
  | adopt (small : Byte) (arg : Word)
  /-- SHOW (R106): the small argument names the set. -/
  | showSet (small : Byte) (arg : Word)
  /-- STOP (R107). -/
  | stop (small : Byte) (arg : Word)
  /-- ADVANCE (R105). -/
  | advance (small : Byte) (arg : Word)
  /-- FADE (R126): the small argument names the ramp unit, ARG holds rate and target. -/
  | fade (small : Byte) (arg : Word)
  /-- CUT (R128): the small argument names the ramp unit, ARG holds the level. -/
  | cut (small : Byte) (arg : Word)
  /-- COUNT_SET (R151): ARG is the value. -/
  | countSet (small : Byte) (arg : Word)
  /-- ACK (R174): ARG is the cause mask. -/
  | ack (small : Byte) (arg : Word)
  /-- UNKNOWN_COMMAND (R166): a code that is not in the command table. -/
  | unknownCommand (code : Byte) (small : Byte) (arg : Word)
  /-- CAPTURED_WRITE (R160): a CPU write cycle. -/
  | capturedWrite (addr : Addr) (data : Word) (lanes : Lanes)
  /-- STRUCTURAL_SETUP_WRITE (R48). -/
  | structuralSetupWrite (addr : Addr) (data : Word) (lanes : Lanes)
  /-- FIELD_COUNTER_MODE_WRITE (R150). -/
  | fieldCounterModeWrite (addr : Addr) (data : Word) (lanes : Lanes)
  /-- ENABLE_MASK_WRITE (R175). -/
  | enableMaskWrite (addr : Addr) (data : Word) (lanes : Lanes)
  /-- REPORT_SUMMARY_READ (R163): a CPU read cycle; `dram` holds its lanes and the word DRAM drives in it. -/
  | reportSummaryRead (addr : Addr) (dram : ReadWord)
  /-- DISPLAY_FETCH (R112, R159): a FETCH# cycle of either direction; `word` holds its direction, lanes and data word. -/
  | displayFetch (addr : Addr) (word : FetchWord)
  /-- LHS_SEEN (R69, R70, R71, R74, R111): LHS is high at the present instant. -/
  | lhsSeen
  /-- LHS_WINDOW_CLOSE (R74). -/
  | lhsWindowClose
  /-- LINE_ZERO_LVS_TIMEOUT (R75). -/
  | lineZeroLvsTimeout
  /-- LOCAL_FIELD_START (R69, R72): LVS is high at the present instant. -/
  | localFieldStart
  /-- DWELL_EXPIRED (R102). -/
  | dwellExpired
  /-- LOCAL_LINE_START (R66): the dot counter wraps. -/
  | localLineStart (now : Time)
  /-- CUE_PULSE (R154): an accepted rise of the CUE input. -/
  | cuePulse (now : Time)
  /-- CUE_FALL_ACCEPTED (R153). -/
  | cueFallAccepted (now : Time)
  /-- BUS_RESET_RELEASE (R171). -/
  | busResetRelease
  /-- POWER_RESET_END (R78, R156): release of RESET#. -/
  | powerResetEnd
  /-- SYNTHESISER_CARRY (R63, R66, R120): a carry ends a dot. -/
  | synthesiserCarry (now : Time)
  /-- CSYNC_LEVEL_CHANGE (R1): the raw CSYNC level becomes `level`. -/
  | csyncLevelChange (now : Time) (level : Level)
  /-- CUE_LEVEL_CHANGE (R153): the raw CUE level becomes `level`. -/
  | cueLevelChange (now : Time) (level : Level)
  deriving DecidableEq, Repr

end Sys2Proof
end

