-- ==== Sys2Proof/Machine/Arith.lean ====
section
/-! DEFINITION. The arithmetic the rules share: signed time differences, round-half-up, clamps, wraps and
byte lanes. -/

namespace Sys2Proof.Machine

/-- The difference of two timestamps as a signed 32-bit number (00_scope.md, "Time"). -/
def sdiff (a b : Time) : Int := (a - b).toInt

/-- A time `k` ticks after `t`, modulo the timebase. -/
def later (t : Time) (k : Nat) : Time := t + BitVec.ofNat 32 k

/-- `n / d` rounded to the nearest integer, an exact half upward (00_scope.md, "Rounding and limits"). -/
def roundDiv (n d : Nat) : Nat := (2 * n + d) / (2 * d)

/-- `n / d` rounded to the nearest integer, an exact half toward plus infinity. -/
def roundDivInt (n : Int) (d : Nat) : Int := (2 * n + d) / (2 * d)

/-- A clamp to lo..hi (00_scope.md, "Rounding and limits"). -/
def clamp (lo hi x : Nat) : Nat := max lo (min hi x)

/-- A clamp of an integer to lo..hi, where both ends are naturals. -/
def clampInt (lo hi : Nat) (x : Int) : Nat := clamp lo hi x.toNat

/-- `x` brought into the range -floor(p/2) .. p - floor(p/2) - 1 by whole multiples of `p` (R10, R57, R81). -/
def wrapCentred (x : Int) (p : Nat) : Int := (x + (p / 2 : Nat)) % p - (p / 2 : Nat)

/-- A saturating count: one more, but never past 65,535. -/
def bump (n : Nat) : Nat := min 65535 (n + 1)

/-- The low byte lane of a word. -/
def lowByte (w : Word) : Byte := w.extractLsb' 0 8

/-- The high byte lane of a word. -/
def highByte (w : Word) : Byte := w.extractLsb' 8 8

/-- Capture lane by lane (R160): a lane the write uses takes the byte written, the other keeps its own. -/
def mergeLanes (old new : Word) (lanes : Lanes) : Word :=
  (if lanes.high then highByte new else highByte old) ++ (if lanes.low then lowByte new else lowByte old)

/-- Bit `n` of a word. -/
def bit (w : Word) (n : Nat) : Bool := w.getLsbD n

/-- Bits `hi..lo` of a word as a number. -/
def bits (w : Word) (lo width : Nat) : Nat := w.toNat / 2 ^ lo % 2 ^ width

end Sys2Proof.Machine
end

