-- ==== Sys2Proof/Machine/Defaults.lean ====
section
/-! DEFINITION. The values the straps and power reset give the shadows: the default increments and line
lengths (R65, R51), and the words of the setup and of the pending images (11_cue_area_formats.md). -/

namespace Sys2Proof.Machine

/-- The default increment for a DCLK strap value (section 4.1, "Strap defaults"). -/
def defaultIncrement (dclk : BitVec 2) : Nat :=
  match dclk.toNat with
  | 0 => 2174824
  | 1 => 4349649
  | 2 => 4448504
  | _ => 4971027

/-- The default L_dots for a DCLK strap value (section 4.1, "Strap defaults"). -/
def defaultDots (dclk : BitVec 2) : Nat :=
  match dclk.toNat with
  | 0 => 448
  | 1 => 896
  | 2 => 910
  | _ => 1024

/-- The default I_min: default I less floor(default I / 16) (section 2.8). -/
def defaultIMin (dclk : BitVec 2) : Nat := defaultIncrement dclk - defaultIncrement dclk / 16

/-- The default I_max: default I plus floor(default I / 16) (section 2.8). -/
def defaultIMax (dclk : BitVec 2) : Nat := defaultIncrement dclk + defaultIncrement dclk / 16

/-- The frame standard code the STD strap gives (11.2): 0 for 625 lines, 1 for 525. -/
def standardCode : Standard → Word
  | .lines625 => 0
  | .lines525 => 1

/-- Pb16 after power reset (R51). -/
def defaultPb16 : Standard → Nat
  | .lines625 => 55296
  | .lines525 => 54912

/-- The low and high halves of a two-word setting (11.2). -/
def lowWord (n : Nat) : Word := BitVec.ofNat 16 n
def highWord (n : Nat) : Word := BitVec.ofNat 16 (n / 65536)

/-- The defaults of the loop setup block, offsets 0x000..0x01F (11.2). -/
def loopSetupDefaults (dclk : BitVec 2) (std : Standard) : Vector Word 32 :=
  #v[standardCode std, lowWord (defaultDots dclk),
     lowWord (defaultIMin dclk), highWord (defaultIMin dclk),
     lowWord (defaultIMax dclk), highWord (defaultIMax dclk),
     3200, 3700, 8, 8, 190, 810, 24, 400, 600, 24,
     300, 6, 8, 32, 40, 8, 3, 4, 1250, 3, 0, 0, 8, 96, 0x007F, 0]

/-- The defaults of the raster, key and cue-input setup block, offsets 0x020..0x03F (11.2). -/
def auxSetupDefaults : Vector Word 32 :=
  #v[0, 0, 0, 0, 0, 0, 0, 0, 16, 0, 0, 50000, 0, 0, 0, 0,
     0, 0, 0, 0, 0, 0, 0, 0, 0, 0, 0, 0, 0, 0, 0, 0]

/-- The reset word at offset `o` of a pending window set (R109, 11.3): next set NONE, HOLD, dwell 1, and in
each window record level source FIXED. Of the words 4..65,535 that name NONE the model writes 4
(DESIGN CHOICE, log 12). The bits and words that no block reads, of which the spec says nothing, are 0: set words
0x03..0x07 and 0x38..0x3F, words 6 and 7 of a window record, and bit 11 of its word 0 (DESIGN CHOICE, log 35). -/
def setWordDefault (o : Nat) : Word :=
  if o = 0 then 4 else if o = 1 then 2 else if o = 2 then 1
  else if 8 ≤ o ∧ o < 0x38 ∧ o % 8 = 0 then 0x4000 else 0

/-- The reset words of the four pending window sets, offsets 0x100..0x1FF. -/
def pendingSetsDefault : Vector Word 256 :=
  ⟨⟨(List.range 256).map fun i => setWordDefault (i % 64)⟩, by simp⟩

/-- The reset words of the four pending ramp records, offsets 0x040..0x047 (R109). -/
def pendingRampsDefault : Vector Word 8 := #v[1, 0, 1, 0, 1, 0, 1, 0]

/-- The reset cue table: all-zero words (11.4). -/
def pendingTableDefault : Vector Word 164 := Vector.replicate 164 0

/-- The all-zero snapshot of power reset (R169). -/
def snapshotDefault : Vector Word 31 := Vector.replicate 31 0

end Sys2Proof.Machine
end

