-- ==== Sys2Proof/Machine/State.lean ====
section
/-! DEFINITION. The state of the LK30 as plain data, block by block (00_scope.md, "The blocks and how they
work together"), the reasons a step can stop, and the state after reset. -/

namespace Sys2Proof.Machine

/-- Why a step stops the model with a fault: for no reason. The spec gives every row its effect in every state, and
a value that it leaves open is a free value of Sys2Proof.Config, so no meaning ends in a fault. -/
inductive Fault where
  deriving DecidableEq, Repr

/-- Why a command has no meaning. -/
inductive Refusal where
  /-- Raised by an arm of exec whose row has no meaning yet. Safe: nothing is claimed of the row. -/
  | notModelled (mnemonic : String)
  deriving DecidableEq, Repr

/-! ### Sync front end -/

/-- A glitch filter: its accepted level and at most one run, with the run's start stamp (R1, R153). `hold` keeps the
tick at which a new width was taken during the run, with the width that still judges the run on that tick: the new
one judges it from the next tick on (R2, R153; the model's own mark, log 38). -/
structure Filter where
  accepted : Level
  run : Option Time
  hold : Option (Time × Nat) := none
  deriving DecidableEq, Repr

/-- The class of a pulse record (R5). -/
inductive PulseClass where
  | narrow
  | line
  | broad
  deriving DecidableEq, Repr

/-- A pulse record (R3). -/
structure Pulse where
  lead : Time
  width : Nat
  cls : PulseClass
  deriving DecidableEq, Repr

/-- The broadcast parity (R11). -/
inductive Parity where
  | unknown
  | field1
  | field2
  deriving DecidableEq, Repr

/-- A field measure record (section 1.7). -/
structure FieldMeasure where
  accepted : Nat
  missed : Nat
  excused : Nat
  candidates : Nat
  maxError : Nat
  shortest : Nat
  longest : Nat
  lines : Nat
  parity : Parity
  deriving DecidableEq, Repr

/-- The sync front end (chapter 1). -/
structure FrontEnd where
  filter : Filter
  pulse : Option Time
  waitRise : Bool
  queue : List Pulse
  runCount : Nat
  lineValid : Bool
  line : Nat
  lineTime : Option Time
  parity : Parity
  accum : FieldMeasure
  last : FieldMeasure
  deriving DecidableEq, Repr

/-! ### Line lock loop -/

/-- The seven loop states (section 2.1). -/
inductive LoopState where
  | off
  | seek
  | pull
  | locked
  | coast
  | frozen
  | slew
  deriving DecidableEq, Repr

/-- An open line: its number, its prediction and its four marks (section 2.1). -/
structure OpenLine where
  line : Nat
  pred : Time
  closed : Bool
  edge : Bool
  excused : Bool
  candidate : Bool
  deriving DecidableEq, Repr

/-- An entry of the candidate list (section 2.5). -/
structure Candidate where
  time : Time
  offset : Int
  deriving DecidableEq, Repr

/-- The seek state (section 2.1). `dots` is the L_dots fixed as the computation begins (R53). -/
structure Seek where
  prev : Option Time
  acc : Nat
  count : Nat
  inFlight : Bool
  lineStarts : Nat
  dots : Nat
  deriving DecidableEq, Repr

/-- The line lock loop (chapter 2). `freq` is F and `inc` is I. `priorPred` is the prediction of the line
before the oldest open line (log 17), `holdoverOwed` the mark that HOLDOVER_EXPIRED is due (log 6). -/
structure Loop where
  state : LoopState
  freq : Nat
  inc : Nat
  pb16 : Nat
  valid : Bool
  base : Time
  baseLine : Nat
  lines : List OpenLine
  priorPred : Time
  refTime : Time
  refLine : Nat
  lockCount : Nat
  unlockCount : Nat
  missedRun : Nat
  returnCount : Nat
  holdCount : Nat
  edgeless : Nat
  candidates : List Candidate
  seek : Seek
  lastE : Int
  holdoverOwed : Bool
  deriving DecidableEq, Repr

/-! ### Frame aligner -/

/-- The frame aligner: the misalignment count and the slew record (section 5.1). `released` is the model's own mark: the
instant at which a RELEASE last took the loop out of LOCKED, for the frame check of that instant (R82, log 41). -/
structure Aligner where
  count : Nat
  forward : Bool
  distance : Nat
  stepA : Nat
  top : Nat
  level : Nat
  abandon : Bool
  released : Option Time := none
  deriving DecidableEq, Repr

/-! ### Clock synthesiser and raster counter -/

/-- The clock synthesiser (section 4.1). `handed` is the pending increment; `carryOwed` the mark that the
carry of the present tick has yet to be taken (log 2). -/
structure Synth where
  acc : BitVec 24
  applied : Nat
  handed : Nat
  carryOwed : Bool
  deriving DecidableEq, Repr

/-- The capture phases (section 4.3). -/
inductive Phase where
  | hunt
  | align
  | captured
  deriving DecidableEq, Repr

/-- The samples of LHS or LVS (R69): whether the signal was sampled high in the dot before, and whether it has been in
the dot in progress (log 25). -/
structure Sample where
  before : Bool
  here : Bool
  deriving DecidableEq, Repr

/-- The raster counter (section 4.2). `lineLen` is the L_dots of the line in progress (R68), `secondField`
is local parity 2, `lhs` and `lvs` the samples of the two signals (R69). The five last fields are the model's own marks
for the checks of R74 and R75 (log 24); `huntDot` says that an LVS in the dot in progress would be the second failure
of that dot, which is met in HUNT (R75, log 34). -/
structure Raster where
  dot : Nat
  line : Nat
  secondField : Bool
  frameLen : Option Nat
  phase : Phase
  renumber : Bool
  lastStart : Time
  lineLen : Nat
  lhs : Sample
  lvs : Sample
  lhsSeen : Bool
  lvsSeen : Bool
  lhsMissed : Bool
  lvsMissed : Bool
  huntDot : Bool
  deriving DecidableEq, Repr

/-! ### Title engine -/

/-- The modes of a window (section 6.2). -/
inductive WindowMode where
  | opaqueMode
  | indexKey
  | matte
  deriving DecidableEq, Repr

/-- Where a window's level comes from (section 6.2). -/
inductive LevelSource where
  | ramp (r : Fin 4)
  | fixed
  deriving DecidableEq, Repr

/-- A live window record (section 6.2). -/
structure Window where
  enabled : Bool
  mode : WindowMode
  keyIndex : Nat
  top : Nat
  bottom : Nat
  left : Nat
  right : Nat
  source : LevelSource
  level : Nat
  deriving DecidableEq, Repr

/-- The dwell modes (section 6.2). -/
inductive DwellMode where
  | fields
  | cue
  | hold
  deriving DecidableEq, Repr

/-- A live window set: its header and six windows. -/
structure WindowSet where
  next : Option (Fin 4)
  mode : DwellMode
  dwell : Nat
  windows : Vector Window 6
  deriving DecidableEq, Repr

/-- A live ramp record. -/
structure RampRecord where
  rate : Nat
  level : Nat
  deriving DecidableEq, Repr

/-- The title engine (section 6.1). `dwellOwed` is the mark that DWELL_EXPIRED is due (log 6). -/
structure Title where
  pendingSets : Vector Word 256
  pendingRamps : Vector Word 8
  sets : Vector WindowSet 4
  ramps : Vector RampRecord 4
  adoptRequest : Bool
  active : Option (Fin 4)
  remaining : Nat
  dwellOwed : Bool
  deriving DecidableEq, Repr

/-! ### Keyer -/

/-- A decided key and MIX code (R117). -/
structure KeyCell where
  key : Bool
  mix : BitVec 4
  deriving DecidableEq, Repr

/-- A key record: its first column and its four cells, `none` where the column is empty (section 7.4). -/
structure KeyRecord where
  first : Int
  cells : Vector (Option KeyCell) 4
  deriving DecidableEq, Repr

/-- Whether the keying line has begun, and whether it has run past a wrap of the dot counter (R119, R120,
log 22). -/
inductive KeySpan where
  | notBegun
  | begun
  | pastWrap
  deriving DecidableEq, Repr

/-- A ramp unit (section 7.1). -/
structure Ramp where
  level : Nat
  target : Nat
  rate : Nat
  moving : Bool
  unstarted : Bool
  deriving DecidableEq, Repr

/-- The keyer (section 7.1). `shown` is the cell presented in the dot in progress. -/
structure Keyer where
  fetchCount : Nat
  keyLine : Nat
  origin : Nat
  colZero : Nat
  delay : List KeyRecord
  shown : KeyCell
  span : KeySpan
  rasterSource : Bool
  cueHold : Bool
  ramps : Vector Ramp 4
  deriving DecidableEq, Repr

/-! ### Cue unit -/

/-- The domain of a cue (section 8.1). -/
inductive Domain where
  | localLines
  | broadcast
  deriving DecidableEq, Repr

/-- The field parity in which a cue fires (section 8.1). -/
inductive CueParity where
  | any
  | field1
  | field2
  deriving DecidableEq, Repr

/-- What a cue does when it fires (section 8.1). -/
inductive Action where
  | attend
  | fade
  | cut
  | showSet
  | stopSet
  | latch
  | holdKey
  | freeKey
  deriving DecidableEq, Repr

/-- A live cue entry (section 8.1). -/
structure Cue where
  enabled : Bool
  domain : Domain
  line : Nat
  parity : CueParity
  target : Option Nat
  action : Action
  arg : Word
  deriving DecidableEq, Repr

/-- The origin of a latch record (section 8.7). -/
inductive Origin where
  | pulse
  | entry (i : Nat)
  deriving DecidableEq, Repr

/-- The latch record (section 8.7). -/
structure Latch where
  origin : Origin
  time : Time
  line : Nat
  lineValid : Bool
  localLine : Nat
  loopState : LoopState
  lastE : Int
  seqCount : Nat
  deriving DecidableEq, Repr

/-- The cue unit (section 8.1). -/
structure CueUnit where
  pendingTable : Vector Word 164
  count : Nat
  entries : Vector Cue 40
  counter : Nat
  saturated : Bool
  filter : Filter
  latch : Latch
  lastCue : Option Nat
  deriving DecidableEq, Repr

/-! ### Bus watcher and attention unit -/

/-- A queued command (section 9.5). -/
structure Command where
  code : Byte
  small : Byte
  arg : Word
  deriving DecidableEq, Repr

/-- The verdicts (R168). -/
inductive Verdict where
  | accepted
  | refusedState
  | refusedArgument
  | unknown
  deriving DecidableEq, Repr

/-- A bus cycle as passed on to the memory bus: a FETCH# cycle of read or of write direction, a CPU read, or a CPU
write (R159). -/
inductive BusCycle where
  | fetch (addr : Addr) (lanes : Lanes)
  | fetchWrite (addr : Addr) (data : Word) (lanes : Lanes)
  | read (addr : Addr) (lanes : Lanes)
  | write (addr : Addr) (data : Word) (lanes : Lanes)
  deriving DecidableEq, Repr

/-- The bus watcher (section 9.1), with its two buses' last cycle and last word (log 13). -/
structure Bus where
  base : Addr
  arg : Word
  cmd : Word
  queue : List Command
  lastCode : Byte
  lastVerdict : Option Verdict
  snapshot : Vector Word 31
  toDram : Option BusCycle
  readData : Word
  deriving DecidableEq, Repr

/-- The attention unit (section 10.1). ATTN# itself is among the pins. -/
structure Attention where
  causes : Word
  enable : Word
  mismatch : Bool
  deriving DecidableEq, Repr

/-- The setup shadows: the loop setup block and the raster, key and cue-input setup block (R161). -/
structure Setup where
  loop : Vector Word 32
  aux : Vector Word 32
  deriving DecidableEq, Repr

/-- The output pins. -/
structure Pins where
  attnLow : Bool
  key : Bool
  mix : BitVec 4
  dotclk : Bool
  deriving DecidableEq, Repr

/-- The whole machine. `choices` counts the free choices made (log 3), `pending` holds the commands that
wait, first in, first out. -/
structure State where
  timebase : Time
  rawCsync : Level
  rawCue : Level
  resetHeld : Bool
  bresetHeld : Bool
  setup : Setup
  front : FrontEnd
  loop : Loop
  align : Aligner
  synth : Synth
  raster : Raster
  title : Title
  keyer : Keyer
  cue : CueUnit
  bus : Bus
  att : Attention
  pins : Pins
  choices : Nat
  pending : List Instr
  deriving DecidableEq, Repr

/-! ### One update per block -/

namespace State

def atTime (t : Time) (s : State) : State := { s with timebase := t }
def onSetup (f : Setup → Setup) (s : State) : State := { s with setup := f s.setup }
def onFront (f : FrontEnd → FrontEnd) (s : State) : State := { s with front := f s.front }
def onLoop (f : Loop → Loop) (s : State) : State := { s with loop := f s.loop }
def onAlign (f : Aligner → Aligner) (s : State) : State := { s with align := f s.align }
def onSynth (f : Synth → Synth) (s : State) : State := { s with synth := f s.synth }
def onRaster (f : Raster → Raster) (s : State) : State := { s with raster := f s.raster }
def onTitle (f : Title → Title) (s : State) : State := { s with title := f s.title }
def onKeyer (f : Keyer → Keyer) (s : State) : State := { s with keyer := f s.keyer }
def onCue (f : CueUnit → CueUnit) (s : State) : State := { s with cue := f s.cue }
def onBus (f : Bus → Bus) (s : State) : State := { s with bus := f s.bus }
def onAtt (f : Attention → Attention) (s : State) : State := { s with att := f s.att }
def setPins (p : Pins) (s : State) : State := { s with pins := p }
def setRawCsync (l : Level) (s : State) : State := { s with rawCsync := l }
def setRawCue (l : Level) (s : State) : State := { s with rawCue := l }
def setBreset (b : Bool) (s : State) : State := { s with bresetHeld := b }
def setReset (b : Bool) (s : State) : State := { s with resetHeld := b }
def setChoices (n : Nat) (s : State) : State := { s with choices := n }
def setPending (q : List Instr) (s : State) : State := { s with pending := q }

end State

/-! ### Values after power reset -/

/-- A cleared field measure record that begins with the given parity (R17). -/
def FieldMeasure.fresh (p : Parity) : FieldMeasure :=
  { accepted := 0, missed := 0, excused := 0, candidates := 0, maxError := 0, shortest := 0, longest := 0,
    lines := 0, parity := p }

/-- The sync front end after power reset (R19). -/
def FrontEnd.reset : FrontEnd :=
  { filter := { accepted := .high, run := none }, pulse := none, waitRise := false, queue := [], runCount := 0,
    lineValid := false, line := 0, lineTime := none, parity := .unknown,
    accum := .fresh .unknown, last := .fresh .unknown }

/-- The cleared seek state (R21). -/
def Seek.clear : Seek := { prev := none, acc := 0, count := 0, inFlight := false, lineStarts := 0, dots := 0 }

/-- The loop after power reset (R51). -/
def Loop.reset (dclk : BitVec 2) (std : Standard) : Loop :=
  { state := .off, freq := defaultIncrement dclk, inc := defaultIncrement dclk, pb16 := defaultPb16 std,
    valid := false, base := 0, baseLine := 0, lines := [], priorPred := 0, refTime := 0, refLine := 0,
    lockCount := 0, unlockCount := 0, missedRun := 0, returnCount := 0, holdCount := 0, edgeless := 0,
    candidates := [], seek := .clear, lastE := 0, holdoverOwed := false }

/-- The frame aligner after power reset (R91). -/
def Aligner.reset : Aligner :=
  { count := 0, forward := true, distance := 0, stepA := 8, top := 12, level := 0, abandon := false }

/-- The synthesiser after power reset (R65). -/
def Synth.reset (dclk : BitVec 2) : Synth :=
  { acc := 0, applied := defaultIncrement dclk, handed := defaultIncrement dclk, carryOwed := false }

/-- No high sample: LHS and LVS after power reset, of which the spec says nothing (DESIGN CHOICE, log 25). -/
def Sample.low : Sample := { before := false, here := false }

/-- The raster counter after power reset (R78). -/
def Raster.reset (dclk : BitVec 2) : Raster :=
  { dot := 0, line := 0, secondField := false, frameLen := none, phase := .hunt, renumber := false,
    lastStart := 0, lineLen := defaultDots dclk, lhs := .low, lvs := .low, lhsSeen := false, lvsSeen := false,
    lhsMissed := false, lvsMissed := false, huntDot := false }

/-- A live window, set and ramp record at reset (R109). -/
def Window.reset : Window :=
  { enabled := false, mode := .opaqueMode, keyIndex := 0, top := 0, bottom := 0, left := 0, right := 0,
    source := .fixed, level := 0 }
def WindowSet.reset : WindowSet :=
  { next := none, mode := .hold, dwell := 1, windows := Vector.replicate 6 Window.reset }
def RampRecord.reset : RampRecord := { rate := 1, level := 0 }

/-- The title engine after either reset (R109, R110). -/
def Title.reset : Title :=
  { pendingSets := pendingSetsDefault, pendingRamps := pendingRampsDefault,
    sets := Vector.replicate 4 WindowSet.reset, ramps := Vector.replicate 4 RampRecord.reset,
    adoptRequest := false, active := none, remaining := 0, dwellOwed := false }

/-- The programme shown: KEY 0, MIX 0. -/
def KeyCell.programme : KeyCell := { key := false, mix := 0 }

/-- A ramp unit after either reset (R133, R134). -/
def Ramp.reset : Ramp := { level := 0, target := 0, rate := 1, moving := false, unstarted := true }

/-- The keyer after power reset (R133). -/
def Keyer.reset : Keyer :=
  { fetchCount := 0, keyLine := 0, origin := 0, colZero := 0, delay := [], shown := .programme, span := .begun,
    rasterSource := false, cueHold := false, ramps := Vector.replicate 4 Ramp.reset }

/-- A cue entry, and the latch record, after either reset (R156, R157). -/
def Cue.reset : Cue :=
  { enabled := false, domain := .localLines, line := 0, parity := .any, target := none, action := .attend,
    arg := 0 }
def Latch.reset : Latch :=
  { origin := .pulse, time := 0, line := 0, lineValid := false, localLine := 0, loopState := .off, lastE := 0,
    seqCount := 0 }

/-- The cue unit after power reset, with the accepted CUE level given (R156). -/
def CueUnit.reset (cue : Level) : CueUnit :=
  { pendingTable := pendingTableDefault, count := 0, entries := Vector.replicate 40 Cue.reset, counter := 0,
    saturated := false, filter := { accepted := cue, run := none }, latch := .reset, lastCue := none }

/-- The bus watcher after power reset (R158, R169). -/
def Bus.reset (base : BitVec 4) : Bus :=
  { base := base ++ (0 : BitVec 14), arg := 0, cmd := 0, queue := [], lastCode := 0, lastVerdict := none,
    snapshot := snapshotDefault, toDram := none, readData := 0 }

/-- The attention unit after power reset (R176). -/
def Attention.reset : Attention := { causes := 0, enable := 0, mismatch := false }

/-- The shadows of the setup after power reset (R51, R91, R133, R156). -/
def Setup.reset (dclk : BitVec 2) (std : Standard) : Setup :=
  { loop := loopSetupDefaults dclk std, aux := auxSetupDefaults }

/-- The output pins after power reset: ATTN# high, KEY and MIX 0, DOTCLK low (R176, R133). -/
def Pins.reset : Pins := { attnLow := false, key := false, mix := 0, dotclk := false }

/-- Every block at its power-reset values, for the straps sampled and the levels of the input pins. The
commands that wait and the choices made are not the part's and are given. -/
def State.powerReset (base : BitVec 4) (dclk : BitVec 2) (std : Standard) (csync cue : Level) (held breset : Bool)
    (choices : Nat) (pending : List Instr) : State :=
  { timebase := 0, rawCsync := csync, rawCue := cue, resetHeld := held, bresetHeld := breset,
    setup := .reset dclk std, front := .reset, loop := .reset dclk std, align := .reset, synth := .reset dclk,
    raster := .reset dclk, title := .reset, keyer := .reset, cue := .reset cue, bus := .reset base,
    att := .reset, pins := .reset, choices := choices, pending := pending }

/-- The machine right after power reset, RESET# released. The spec gives no strap or pin levels: DCLK 1,
625 lines, BASE 0, CSYNC high and CUE low are DESIGN CHOICES (log 9). -/
def State.reset : State := State.powerReset 0 1 .lines625 .high .low false false 0 []

end Sys2Proof.Machine
end

