-- ==== Sys2Proof/Machine/Operands.lean ====
section
/-! DEFINITION. The settings as the rules use them, decoded and clamped from the shadows (R49, R50, R80,
R114, R150, R153, R181), the place of an address in the cue area (R158, R159), and the offset of a dot (R69). -/

namespace Sys2Proof.Machine

/-! ### Words of a block of shadows -/

/-- The word at index `i` of a block of shadows. -/
def wordAt {n : Nat} (v : Vector Word n) (i : Nat) : Word := v[i]?.getD 0

/-- Capture of a write into the shadow at index `i`, lane by lane (R160). -/
def writeAt {n : Nat} (v : Vector Word n) (i : Nat) (data : Word) (lanes : Lanes) : Vector Word n :=
  v.setIfInBounds i (mergeLanes (wordAt v i) data lanes)

/-- The value of the word at index `i`. -/
def numAt {n : Nat} (v : Vector Word n) (i : Nat) : Nat := (wordAt v i).toNat

/-! ### Loop setup, structural (R49, R181) -/

/-- N, the lines per frame of the frame standard in force. -/
def State.frameLines (s : State) : Nat := if wordAt s.setup.loop 0 = 1 then 525 else 625

/-- L_dots as the setup gives it, 64..2047. -/
def State.setupDots (s : State) : Nat := clamp 64 2047 (numAt s.setup.loop 1)

/-- I_min: the value of its two words, clamped to its range. -/
def State.iMin (s : State) : Nat :=
  clamp 1048576 8388607 (numAt s.setup.loop 3 * 65536 + numAt s.setup.loop 2)

/-- I_max: clamped to its range, and used as I_min where it lies below it. -/
def State.iMax (s : State) : Nat :=
  max s.iMin (clamp 1048576 8388607 (numAt s.setup.loop 5 * 65536 + numAt s.setup.loop 4))

def State.pLo (s : State) : Nat := numAt s.setup.loop 6
def State.pHi (s : State) : Nat := numAt s.setup.loop 7
def State.fFall (s : State) : Nat := clamp 0 63 (numAt s.setup.loop 8)
def State.fRise (s : State) : Nat := clamp 0 63 (numAt s.setup.loop 9)
def State.wEq (s : State) : Nat := numAt s.setup.loop 10
def State.wBroad (s : State) : Nat := numAt s.setup.loop 11

/-! ### Loop setup, live (section 2.8, R50) -/

def State.gN (s : State) : Nat := clamp 1 255 (numAt s.setup.loop 12)
/-- G_w, and G_n where it lies below G_n. -/
def State.gW (s : State) : Nat := max s.gN (clamp 0 1023 (numAt s.setup.loop 13))
def State.gpPull (s : State) : Nat := clamp 0 4095 (numAt s.setup.loop 14)
def State.giPull (s : State) : Nat := clamp 0 255 (numAt s.setup.loop 15)
def State.gpLock (s : State) : Nat := clamp 0 4095 (numAt s.setup.loop 16)
def State.giLock (s : State) : Nat := clamp 0 255 (numAt s.setup.loop 17)
def State.tLock (s : State) : Nat := clamp 0 1023 (numAt s.setup.loop 18)
def State.nLock (s : State) : Nat := clamp 4 255 (numAt s.setup.loop 19)
def State.tUnlock (s : State) : Nat := clamp 0 1023 (numAt s.setup.loop 20)
def State.nUnlock (s : State) : Nat := clamp 1 255 (numAt s.setup.loop 21)
def State.mCoast (s : State) : Nat := clamp 2 63 (numAt s.setup.loop 22)
def State.rReturn (s : State) : Nat := clamp 1 15 (numAt s.setup.loop 23)
def State.hHold (s : State) : Nat := clamp 1 4095 (numAt s.setup.loop 24)
def State.jRephase (s : State) : Nat := clamp 2 15 (numAt s.setup.loop 25)
def State.hOff (s : State) : Nat := clamp 0 4095 (numAt s.setup.loop 26)

/-- V_off, at most N - 1 (R80). -/
def State.vOff (s : State) : Nat := clamp 0 (s.frameLines - 1) (numAt s.setup.loop 27)
/-- The slew step a (R80). -/
def State.slewStep (s : State) : Nat := clamp 1 64 (numAt s.setup.loop 28)
/-- The slew limit s_max (R80). -/
def State.slewLimit (s : State) : Nat := clamp 1 256 (numAt s.setup.loop 29)

/-- The code of a loop state (11.5). -/
def LoopState.code : LoopState → Nat
  | .off => 0
  | .seek => 1
  | .pull => 2
  | .locked => 3
  | .coast => 4
  | .frozen => 5
  | .slew => 6

/-- Whether the key-permitted mask marks the present loop state (R124): bit n stands for the state of
code n, and bits 15..7 are ignored (R181). -/
def State.keyPermitted (s : State) : Bool := bit (wordAt s.setup.loop 30) s.loop.state.code

/-! ### Raster, key and cue-input setup -/

/-- The fetch origin f0 as the key setup gives it (R114). -/
def State.setupOrigin (s : State) : Nat := clamp 0 255 (numAt s.setup.aux 0)
/-- The column-zero position as the key setup gives it (R114). -/
def State.setupColZero (s : State) : Nat := clamp 0 2047 (numAt s.setup.aux 1)
/-- Background COMPUTER; any other code is PROGRAMME (R114). -/
def State.backComputer (s : State) : Bool := wordAt s.setup.aux 2 == 1
/-- The CUE filter width (R153). -/
def State.cueWidth (s : State) : Nat := clamp 0 255 (numAt s.setup.aux 8)
/-- The CUE uses (R154): RESET COUNT, ADVANCE CHAIN, TAKE LATCH; bits 15..3 are ignored (R181). -/
def State.useReset (s : State) : Bool := bit (wordAt s.setup.aux 9) 0
def State.useAdvance (s : State) : Bool := bit (wordAt s.setup.aux 9) 1
def State.useLatch (s : State) : Bool := bit (wordAt s.setup.aux 9) 2
/-- Field counter mode RING; any other code is LINEAR (R181). -/
def State.ringMode (s : State) : Bool := wordAt s.setup.aux 10 == 1
/-- The field counter modulus: 0 is used as 1, above 50,000 as 50,000 (R150). -/
def State.modulus (s : State) : Nat := clamp 1 50000 (numAt s.setup.aux 11)

/-! ### Addresses (R158, R159, R161) -/

/-- The offset of an address from the cue-area base, or none where it lies outside the cue area (R158). -/
def State.offsetOf (s : State) (addr : Addr) : Option Nat :=
  if s.bus.base.toNat ≤ addr.toNat ∧ addr.toNat ≤ s.bus.base.toNat + 2047
  then some (addr.toNat - s.bus.base.toNat) else none

/-- What a captured word holds, with its place within its block (R161). `plain` is every other word of the
cue area. -/
inductive Place where
  | structural (i : Nat)
  | liveLoop (i : Nat)
  | counterMode (i : Nat)
  | aux (i : Nat)
  | rampRecord (i : Nat)
  | enableMask
  | windowSet (i : Nat)
  | cueTable (i : Nat)
  | argument
  | command
  | plain
  deriving DecidableEq, Repr

/-- The place of an offset in the map of the cue area (R161, 11.1, 11.2). -/
def placeOf (o : Nat) : Place :=
  if o ≤ 0x00B then .structural o
  else if o ≤ 0x01F then .liveLoop o
  else if o = 0x02A ∨ o = 0x02B then .counterMode (o - 0x020)
  else if o ≤ 0x03F then .aux (o - 0x020)
  else if o ≤ 0x047 then .rampRecord (o - 0x040)
  else if o = 0x048 then .enableMask
  else if 0x100 ≤ o ∧ o ≤ 0x1FF then .windowSet (o - 0x100)
  else if 0x200 ≤ o ∧ o ≤ 0x2A3 then .cueTable (o - 0x200)
  else if o = 0x7C0 then .argument
  else if o = 0x7C1 then .command
  else .plain

/-- Whether the bus watcher captures, enqueues and substitutes: not while RESET# or BRESET# is held
(R159, R171). -/
def State.listening (s : State) : Bool := !s.resetHeld && !s.bresetHeld

/-! ### The offset of a dot (R69) -/

/-- The distance of a dot from the nearest dot 0: negative before the next line start (R69). -/
def dotOffset (dot len : Nat) : Int := if dot ≤ len / 2 then dot else (dot : Int) - len

/-- The offset of a signal seen in the present dot. -/
def State.offset (s : State) : Int := dotOffset s.raster.dot s.raster.lineLen

/-- Whether DOTCLK rises on the present tick: the first tick after a carry at which the accumulator holds 2^23 or
more, so that one increment before it held less (R63). LHS and LVS are sampled on it (R69). -/
def Synth.rises (y : Synth) : Bool := decide (2 ^ 23 ≤ y.acc.toNat) && decide (y.acc.toNat < 2 ^ 23 + y.applied)

/-- Pb, the period estimate rounded to ticks (section 2.1). -/
def State.pb (s : State) : Nat := roundDiv s.loop.pb16 16

/-- `x` brought into -floor(Pb/2)..Pb - floor(Pb/2) - 1 by whole multiples of Pb (R10, R57). With Pb at 0 there is no
such value, and the one used is free (log 33). -/
def wrapPeriod (x : Int) (pb : Nat) : Int := if pb = 0 then Config.wrapByZero x else wrapCentred x pb

end Sys2Proof.Machine
end

