-- ==== Sys2Proof/Machine/Flags.lean ====
section
/-! DEFINITION. The flags: the sixteen causes and their marks (chapter 10), the FRAME MISMATCH condition
(R77), the key restriction (R121), and the output pins as functions of the rest of the state. -/

namespace Sys2Proof.Machine

/-- The sixteen causes (section 10.1). -/
inductive Cause where
  | lockGained
  | rephase
  | holdoverExpired
  | offStandard
  | fieldIrregular
  | pulseOverrun
  | slewDone
  | chainEnd
  | cue
  | countSaturated
  | commandRefused
  | commandOverrun
  | setupLate
  | rasterFault
  | frameMismatch
  | rampDone
  deriving DecidableEq, Repr

/-- The number of a cause: its place in the pending set, the mask and the report (section 10.1). -/
def Cause.num : Cause → Nat
  | .lockGained => 0
  | .rephase => 1
  | .holdoverExpired => 2
  | .offStandard => 3
  | .fieldIrregular => 4
  | .pulseOverrun => 5
  | .slewDone => 6
  | .chainEnd => 7
  | .cue => 8
  | .countSaturated => 9
  | .commandRefused => 10
  | .commandOverrun => 11
  | .setupLate => 12
  | .rasterFault => 13
  | .frameMismatch => 14
  | .rampDone => 15

/-- The mark of a cause in a 16-bit set. -/
def Cause.mark (c : Cause) : Word := BitVec.ofNat 16 (2 ^ c.num)

/-- Whether a cause is in a set of marks. -/
def Cause.isIn (c : Cause) (w : Word) : Bool := bit w c.num

/-- A block raises an event cause: its mark is set, and nothing else in the attention unit changes (R172). -/
def State.raise (c : Cause) (s : State) : State :=
  s.onAtt fun a => { a with causes := a.causes ||| c.mark }

/-- A block raises a cause where a condition holds. -/
def State.raiseIf (b : Bool) (c : Cause) (s : State) : State := if b then s.raise c else s

/-- FRAME MISMATCH holds while the raster is captured and the local frame length is not N; an unknown
length counts as not N (R77). -/
def State.frameMismatch (s : State) : Bool :=
  s.raster.phase == .captured && s.raster.frameLen != some s.frameLines

/-- The raster counter hands the FRAME MISMATCH condition to the attention unit, which raises the cause
when the condition begins to hold (R77, R173). -/
def State.handMismatch (s : State) : State :=
  (s.raiseIf (s.frameMismatch && !s.att.mismatch) .frameMismatch).onAtt
    fun a => { a with mismatch := s.frameMismatch }

/-- Whether any key restriction source is in force: raster, cue hold, or the loop state source (R121, R124). -/
def State.restricted (s : State) : Bool := s.keyer.rasterSource || s.keyer.cueHold || !s.keyPermitted

/-- Whether some cause is both pending and enabled: the state of ATTN# and the attention mark (R175, R177). -/
def State.attention (s : State) : Bool := (s.att.causes &&& s.att.enable) != 0

/-- What the output pins show. ATTN# is low exactly when a cause is pending and enabled (R175). KEY and MIX
carry the cell of the dot in progress, and 0 under a restriction (R120, R121). DOTCLK is low from a carry
until the accumulator holds 2^23 or more (R63), which is bit 23 of the accumulator (DEDUCED, log 31). -/
def State.pinsOf (s : State) : Pins :=
  { attnLow := s.attention
    key := !s.restricted && s.keyer.shown.key
    mix := if s.restricted then 0 else s.keyer.shown.mix
    dotclk := s.synth.acc.getLsbD 23 }

/-- The output pins follow the state at once (R120, R121, R175). -/
def State.drive (s : State) : State := s.setPins s.pinsOf

end Sys2Proof.Machine
end

