-- ==== Sys2Proof/Machine/Ops.lean ====
section
/-! DEFINITION. The operations the meanings share: the passing of time, free choices, the hand-over of I,
the entry of a loop state (R21), the advance of the title chain (R103), and the frame every event stands in. -/

namespace Sys2Proof.Machine

/-! ### Time -/

/-- The timebase moves on to `now`, and the accumulator adds the applied increment once per tick, modulo
2^24 (R63). The carries on the way are steps of their own (log 1). -/
def State.advanceTo (now : Time) (s : State) : State :=
  (s.onSynth fun y => { y with acc := y.acc + BitVec.ofNat 24 ((now - s.timebase).toNat * y.applied) }).atTime now

/-! ### Free choices (log 3) -/

/-- A choice between two orders that the spec leaves open: true for the first. -/
def State.tie (s : State) : Bool × State :=
  (Config.choice s.choices % 2 == 0, s.setChoices (s.choices + 1))

/-! ### Glitch filters (R1, R153) -/

/-- The filter compares the raw level with its accepted level: a run ends where they agree, and begins,
stamped with the present timebase value, where they differ and none is in progress. -/
def Filter.compare (raw : Level) (now : Time) (f : Filter) : Filter :=
  if raw = f.accepted then { f with run := none, hold := none }
  else { f with run := some (f.run.getD now), hold := f.run.bind fun _ => f.hold }

/-- The width that judges a run at a tick, `width` being the one in force: on the tick at which that was taken during
the run, the one before it (R2, R153). -/
def Filter.widthAt (width : Nat) (now : Time) (f : Filter) : Nat :=
  match f.hold with
  | some (t, w) => if t = now then w else width
  | none => width

/-- A new width is taken in place of `width`: a run in progress keeps the old one for the present tick (R2, R153). -/
def Filter.takeWidth (width : Nat) (now : Time) (f : Filter) : Filter :=
  if f.run.isSome then { f with hold := some (now, f.widthAt width now) } else f

/-- The run's start stamp, once the run has lasted the width that applies. -/
def Filter.ripe (width : Nat) (now : Time) (f : Filter) : Option Time :=
  match f.run with
  | none => none
  | some start => if (f.widthAt width now : Int) ≤ sdiff now start then some start else none

/-! ### The loop's increment (R59 to R61, R21) -/

/-- A value clamped to the I_min..I_max in force. -/
def State.clampInc (s : State) (x : Int) : Nat := clampInt s.iMin s.iMax x

/-- The loop sets I, clamped, and hands it to the synthesiser, which keeps it as its pending increment (R61). -/
def State.handInc (x : Int) (s : State) : State :=
  (s.onLoop fun l => { l with inc := s.clampInc x }).onSynth fun y => { y with handed := s.clampInc x }

/-- I becomes F. -/
def State.incToFreq (s : State) : State := s.handInc s.loop.freq

/-! ### Entry of a loop state (R21) -/

/-- What entry to OFF or SEEK does to the sync front end (R15, R18). -/
def FrontEnd.disengage (f : FrontEnd) : FrontEnd :=
  { f with lineValid := false, line := 0, lineTime := none, parity := .unknown, accum := .fresh .unknown }

/-- The loop's part of entry to OFF or SEEK. -/
def Loop.disengage (l : Loop) : Loop :=
  { l with valid := false, lines := [], lockCount := 0, unlockCount := 0, missedRun := 0, returnCount := 0,
           holdCount := 0, edgeless := 0, seek := .clear }

/-- The entry of a state moves to it; leaving LOCKED, and entering LOCKED or SLEW, leaves the candidate
list empty, and in every other state it is empty already. An owed HOLDOVER_EXPIRED does not outlive COAST. -/
def Loop.moveTo (st : LoopState) (l : Loop) : Loop :=
  { l with state := st, candidates := [], holdoverOwed := false }

/-- Entry into a loop state with its entry actions (R21, and R15, R18 for OFF and SEEK). -/
def State.enter (st : LoopState) (s : State) : State :=
  let u := s.onLoop (Loop.moveTo st)
  match st with
  | .off | .seek => ((u.onLoop Loop.disengage).onFront FrontEnd.disengage).incToFreq
  | .pull => u.onLoop fun l => { l with lockCount := 0, missedRun := 0 }
  | .locked => u.onLoop fun l => { l with unlockCount := 0, missedRun := 0 }
  | .coast => (u.onLoop fun l => { l with returnCount := 0, holdCount := 0 }).incToFreq
  | .frozen => u.incToFreq
  | .slew => u

/-- The holdover has run out in COAST: the loop enters SEEK and raises HOLDOVER EXPIRED (R39). -/
def State.expireHoldover (s : State) : State :=
  if s.loop.holdoverOwed then (s.enter .seek).raise .holdoverExpired else s

/-! ### The title chain (R101 to R107) -/

/-- A set becomes active with its live dwell fields (R103, R106). -/
def State.activate (i : Fin 4) (s : State) : State :=
  s.onTitle fun t => { t with active := some i, remaining := t.sets[i].dwell, dwellOwed := false }

/-- The active set becomes NONE with remaining dwell 0 (R103, R107). -/
def State.deactivate (s : State) : State :=
  s.onTitle fun t => { t with active := none, remaining := 0, dwellOwed := false }

/-- The chain advances one step from the active set; with NONE it does not (R103). -/
def State.advanceChain (s : State) : State :=
  match s.title.active with
  | none => s.onTitle fun t => { t with dwellOwed := false }
  | some i =>
    match s.title.sets[i].next with
    | some j => s.activate j
    | none => s.deactivate.raise .chainEnd

/-- The remaining dwell of a FIELDS set has reached 0: the chain advances (R102). -/
def State.expireDwell (s : State) : State := if s.title.dwellOwed then s.advanceChain else s

/-! ### The two buses (R159) -/

/-- A cycle is passed on to the memory bus unchanged (R159). -/
def State.passCycle (c : BusCycle) (s : State) : State := s.onBus fun b => { b with toDram := some c }

/-- The word the shared bus receives in a read or a fetch. -/
def State.answer (w : Word) (s : State) : State := s.onBus fun b => { b with readData := w }

/-! ### The frame of an event -/

/-- A step that the step before it brought about, at the same instant and as its own consequence, is taken
before anything else: the expiry of the dwell (R102) and of the holdover (R39). DEDUCED, log 6. -/
def State.caughtUp (s : State) : State := s.expireDwell.expireHoldover

/-- A step of the part: what is owed is taken first, then the step, and the pins follow. While RESET# is
held no step is taken, and `held` gives what is left of it (log 10). -/
def eventOr (held f : State → State) (s : State) : Host.Outcome State Fault Refusal :=
  .next (if s.resetHeld then held s else (f s.caughtUp).drive)

/-- A step that does nothing while RESET# is held. -/
def event (f : State → State) (s : State) : Host.Outcome State Fault Refusal := eventOr id f s

end Sys2Proof.Machine
end

