-- ==== Sys2Proof/Machine/Delivery.lean ====
section
/-! DEFINITION. The command queue: which command must wait, the verdict, and the taking of a command by its owner
(section 9.5). -/

namespace Sys2Proof.Machine

/-- ENGAGE, RELEASE, FREEZE and RESUME are the loop commands (R167). -/
def Command.isLoop (c : Command) : Bool := 1 ≤ c.code.toNat && c.code.toNat ≤ 4

/-- A loop command at the head of the queue waits while the seek computation is in flight (R26, R167). -/
def State.mustWait (c : Command) (s : State) : Bool := c.isLoop && s.loop.seek.inFlight

/-- The verdict sets the last-command result, and one other than ACCEPTED raises COMMAND REFUSED (R168). -/
def State.giveVerdict (c : Command) (v : Verdict) (s : State) : State :=
  (s.onBus fun b => { b with lastCode := c.code, lastVerdict := some v }).raiseIf (v != .accepted) .commandRefused

/-- The owner takes the command and its verdict is returned (R166, R168). -/
def State.judged (c : Command) (judge : State → Verdict × State) (s : State) : State :=
  (judge s).2.giveVerdict c (judge s).1

/-- No command can be delivered: the queue is empty, or BRESET# is held (R171), or its head must wait (R167). -/
def State.headWaits (s : State) : Bool :=
  match s.bus.queue with
  | [] => true
  | c :: _ => s.bresetHeld || s.mustWait c

/-- The head of the queue leaves it, `rest` being what stands behind it, and is judged (R166). -/
def State.takeCommand (judge : State → Verdict × State) (c : Command) (rest : List Command) (s : State) : State :=
  (s.onBus fun b => { b with queue := rest }).judged c judge

end Sys2Proof.Machine
end

