-- ==== Sys2Proof/Machine/TitleChain.lean ====
section
/-! DEFINITION. The title engine (chapter 6): live values (R95), adoption (R98), dwell (R102), and the judging of
ADOPT, SHOW, STOP and ADVANCE. -/

namespace Sys2Proof.Machine

/-! ### From the pending image to live values (R95, 11.3) -/

/-- A value of at most `hi`, a higher one as `hi`. -/
def atMost (hi : Nat) (w : Word) : Nat := min hi w.toNat

def decodeMode (code : Nat) : WindowMode :=
  match code with
  | 1 => .indexKey
  | 2 => .matte
  | _ => .opaqueMode

def decodeSource (code : Nat) : LevelSource := if h : code < 4 then .ramp ⟨code, h⟩ else .fixed

def decodeDwellMode (code : Nat) : DwellMode :=
  match code with
  | 0 => .fields
  | 1 => .cue
  | _ => .hold

def decodeNext (code : Nat) : Option (Fin 4) := if h : code < 4 then some ⟨code, h⟩ else none

/-- The live window of the record whose first word is at index `i` (11.3). -/
def decodeWindow (p : Vector Word 256) (i : Nat) : Window :=
  { enabled := bit (wordAt p i) 15
    mode := decodeMode (bits (wordAt p i) 8 3)
    keyIndex := min 15 (bits (wordAt p i) 0 8)
    top := atMost 1023 (wordAt p (i + 1))
    bottom := atMost 1023 (wordAt p (i + 2))
    left := atMost 1023 (wordAt p (i + 3))
    right := atMost 1023 (wordAt p (i + 4))
    source := decodeSource (bits (wordAt p i) 12 3)
    level := atMost 255 (wordAt p (i + 5)) }

/-- The live window set whose first word is at index `i` (11.3). -/
def decodeSet (p : Vector Word 256) (i : Nat) : WindowSet :=
  { next := decodeNext (numAt p i)
    mode := decodeDwellMode (numAt p (i + 1))
    dwell := max 1 (numAt p (i + 2))
    windows := #v[decodeWindow p (i + 8), decodeWindow p (i + 16), decodeWindow p (i + 24),
                  decodeWindow p (i + 32), decodeWindow p (i + 40), decodeWindow p (i + 48)] }

/-- The live ramp record at index `i` (11.2): a default rate of 0 is 1 and above 255 is 255. -/
def decodeRamp (p : Vector Word 8) (i : Nat) : RampRecord :=
  { rate := max 1 (atMost 255 (wordAt p i)), level := atMost 255 (wordAt p (i + 1)) }

/-- The title engine's part of an adoption: the whole pending image becomes live and the flag clears; the
chain state stays (R98, R99). -/
def Title.adopt (t : Title) : Title :=
  { t with
    sets := #v[decodeSet t.pendingSets 0, decodeSet t.pendingSets 64, decodeSet t.pendingSets 128,
               decodeSet t.pendingSets 192]
    ramps := #v[decodeRamp t.pendingRamps 0, decodeRamp t.pendingRamps 2, decodeRamp t.pendingRamps 4,
                decodeRamp t.pendingRamps 6]
    adoptRequest := false }

/-! ### Dwell (R102) -/

/-- A local field start counts the dwell of a FIELDS set; where it reaches 0, DWELL_EXPIRED is owed (R102). -/
def Title.countDwell (t : Title) : Title :=
  match t.active with
  | none => t
  | some i =>
    if t.sets[i].mode = .fields then
      { t with remaining := t.remaining - 1, dwellOwed := decide (t.remaining ≤ 1) }
    else t

/-- A CUE pulse that asks for an advance advances a set whose live dwell mode is CUE (R104). -/
def State.cueAdvance (s : State) : State :=
  match s.title.active with
  | none => s
  | some i => if s.title.sets[i].mode = .cue then s.advanceChain else s

/-! ### Commands -/

/-- ADOPT sets the adopt-request flag and is always ACCEPTED (R97). -/
def judgeAdopt (s : State) : Verdict × State :=
  (.accepted, s.onTitle fun t => { t with adoptRequest := true })

/-- SHOW makes the named set active, or is REFUSED-ARGUMENT (R106). -/
def judgeShow (small : Byte) (s : State) : Verdict × State :=
  if h : small.toNat < 4 then (.accepted, s.activate ⟨small.toNat, h⟩) else (.refusedArgument, s)

/-- STOP makes the active set NONE and is always ACCEPTED (R107). -/
def judgeStop (s : State) : Verdict × State := (.accepted, s.deactivate)

/-- ADVANCE advances the chain, or is REFUSED-STATE with the active set NONE (R105). -/
def judgeAdvance (s : State) : Verdict × State :=
  if s.title.active = none then (.refusedState, s) else (.accepted, s.advanceChain)

end Sys2Proof.Machine
end

