-- ==== Sys2Proof/Machine/RampUnits.lean ====
section
/-! DEFINITION. The four ramp units (section 7.6), and the judging of FADE and CUT. -/

namespace Sys2Proof.Machine

/-- One ramp unit changes. -/
def State.onRamp (r : Fin 4) (f : Ramp → Ramp) (s : State) : State :=
  s.onKeyer fun k => { k with ramps := k.ramps.set r (f k.ramps[r]) }

/-- A FADE request with its target and its rate, 0 already replaced (R127). -/
def Ramp.fade (target rate : Nat) (u : Ramp) : Ramp :=
  { level := u.level, target := target, rate := rate, moving := decide (target ≠ u.level), unstarted := false }

/-- A CUT request (R128). -/
def Ramp.cut (level : Nat) (u : Ramp) : Ramp :=
  { u with level := level, target := level, moving := false, unstarted := false }

/-- A rate of 0 asks for the default rate of the live ramp record of the same number (R126). -/
def State.fadeRate (r : Fin 4) (rate : Nat) (s : State) : Nat := if rate = 0 then s.title.ramps[r].rate else rate

/-- A FADE request to a unit; RAMP DONE is raised at once where the target equals the level (R126, R127). -/
def State.fadeRamp (r : Fin 4) (target rate : Nat) (s : State) : State :=
  (s.onRamp r (Ramp.fade target (s.fadeRate r rate))).raiseIf (decide (target = s.keyer.ramps[r].level)) .rampDone

/-- A CUT request to a unit; no cause is raised (R128). -/
def State.cutRamp (r : Fin 4) (level : Nat) (s : State) : State := s.onRamp r (Ramp.cut level)

/-- Whether a field step brings a moving unit to its target: the distance is the rate or less (R125). -/
def Ramp.arrives (u : Ramp) : Bool :=
  u.moving && decide (u.level ≤ u.target + u.rate) && decide (u.target ≤ u.level + u.rate)

/-- The step of a unit at a local field start (R125). -/
def Ramp.step (u : Ramp) : Ramp :=
  if u.moving then
    if u.arrives then { u with level := u.target, moving := false }
    else if u.level < u.target then { u with level := u.level + u.rate }
    else { u with level := u.level - u.rate }
  else u

/-- At adoption an unstarted unit takes the power-on level of its live record (R130). -/
def Ramp.prime (rec : RampRecord) (u : Ramp) : Ramp :=
  if u.unstarted then { u with level := rec.level, target := rec.level, moving := false, unstarted := false } else u

/-- Every ramp unit takes its field step; RAMP DONE is raised where one arrives (R125). -/
def State.stepRamps (s : State) : State :=
  let v := s.keyer.ramps
  (s.onKeyer fun k => { k with ramps := #v[v[0].step, v[1].step, v[2].step, v[3].step] }).raiseIf
    (v[0].arrives || v[1].arrives || v[2].arrives || v[3].arrives) .rampDone

/-- Every unstarted unit takes its power-on level from the live records (R130). -/
def State.primeRamps (s : State) : State :=
  let v := s.keyer.ramps
  let r := s.title.ramps
  s.onKeyer fun k =>
    { k with ramps := #v[v[0].prime r[0], v[1].prime r[1], v[2].prime r[2], v[3].prime r[3]] }

/-- FADE names its unit in the small argument, else it is REFUSED-ARGUMENT; the low byte of ARG is the
target and the high byte the rate (R126). -/
def judgeFade (small : Byte) (arg : Word) (s : State) : Verdict × State :=
  if h : small.toNat < 4 then
    (.accepted, s.fadeRamp ⟨small.toNat, h⟩ (lowByte arg).toNat (highByte arg).toNat)
  else (.refusedArgument, s)

/-- CUT names its unit in the small argument, else it is REFUSED-ARGUMENT; the low byte of ARG is the
level (R128). -/
def judgeCut (small : Byte) (arg : Word) (s : State) : Verdict × State :=
  if h : small.toNat < 4 then (.accepted, s.cutRamp ⟨small.toNat, h⟩ (lowByte arg).toNat)
  else (.refusedArgument, s)

end Sys2Proof.Machine
end

