-- ==== Sys2Proof/Machine/Cues.lean ====
section
/-! DEFINITION. The cue unit (chapter 8): the live cue table (R136), the look at a line start (R138 to R141), the
actions (R144 to R148), the latch record (R155), the field counter (R149 to R151) with the judging of COUNT SET, and
the CUE input (R153, R154). -/

namespace Sys2Proof.Machine

/-! ### From the pending table to live entries (R136, 11.4) -/

def decodeDomain (code : Nat) : Domain :=
  match code with
  | 1 => .broadcast
  | _ => .localLines

def decodeCueParity (code : Nat) : CueParity :=
  match code with
  | 1 => .field1
  | 2 => .field2
  | _ => .any

def decodeAction (code : Nat) : Action :=
  match code with
  | 1 => .fade
  | 2 => .cut
  | 3 => .showSet
  | 4 => .stopSet
  | 5 => .latch
  | 6 => .holdKey
  | 7 => .freeKey
  | _ => .attend

/-- The live entry `i` of a pending table (11.4). -/
def decodeCue (p : Vector Word 164) (i : Nat) : Cue :=
  let w := wordAt p (5 + 4 * i)
  { enabled := bit w 15
    domain := decodeDomain (bits w 12 2)
    line := atMost 1023 (wordAt p (4 + 4 * i))
    parity := decodeCueParity (bits w 10 2)
    target := if bit w 14 then some (numAt p (6 + 4 * i)) else none
    action := decodeAction (bits w 0 4)
    arg := wordAt p (7 + 4 * i) }

/-- The cue unit's part of an adoption (R136). -/
def CueUnit.adopt (c : CueUnit) : CueUnit :=
  { c with
    count := atMost 40 (wordAt c.pendingTable 0)
    entries := ⟨⟨(List.range 40).map (decodeCue c.pendingTable)⟩, by simp⟩ }

/-! ### The latch record (R155) -/

/-- The latch record is taken whole from the present state, with its origin and time (R155). -/
def State.takeLatch (o : Origin) (t : Time) (s : State) : State :=
  s.onCue fun c => { c with latch :=
    { origin := o, time := t, line := s.front.line, lineValid := s.front.lineValid, localLine := s.raster.line,
      loopState := s.loop.state, lastE := s.loop.lastE, seqCount := (c.latch.seqCount + 1) % 256 } }

/-! ### Actions (R144 to R148) -/

/-- The parts of a cue's argument (11.4): bits 15..14 the ramp unit or set, 13..8 the rate, 7..0 the target
or level. -/
def argUnit (w : Word) : Fin 4 := ⟨bits w 14 2, Nat.mod_lt _ (by decide)⟩
def argRate (w : Word) : Nat := bits w 8 6
def argLevel (w : Word) : Nat := bits w 0 8

/-- A cue fires its action; `t` is the time carried by the line start (R144 to R148). -/
def State.fire (t : Time) (s : State) (e : Cue × Nat) : State :=
  match e.1.action with
  | .attend => (s.raise .cue).onCue fun c => { c with lastCue := some e.2 }
  | .fade => s.fadeRamp (argUnit e.1.arg) (argLevel e.1.arg) (argRate e.1.arg)
  | .cut => s.cutRamp (argUnit e.1.arg) (argLevel e.1.arg)
  | .showSet => s.activate (argUnit e.1.arg)
  | .stopSet => s.deactivate
  | .latch => s.takeLatch (.entry e.2) t
  | .holdKey => s.onKeyer fun k => { k with cueHold := true }
  | .freeKey => s.onKeyer fun k => { k with cueHold := false }

/-! ### Matching (R140, R141) -/

/-- Whether an entry's parity allows the parity handed with a line start (R140). -/
def CueParity.allows (p : CueParity) (handed : Parity) : Bool :=
  match p with
  | .any => true
  | .field1 => handed == .field1
  | .field2 => handed == .field2

/-- Whether an entry matches a line start of a domain (R140). -/
def Cue.fits (d : Domain) (line : Nat) (p : Parity) (counter : Nat) (saturated : Bool) (c : Cue) : Bool :=
  c.enabled && c.domain == d && c.line == line && c.parity.allows p &&
    match c.target with
    | none => true
    | some v => v == counter && !saturated

/-- The live entries that match a line start, in table order, each with its index (R140, R141). -/
def CueUnit.fired (d : Domain) (line : Nat) (p : Parity) (c : CueUnit) : List (Cue × Nat) :=
  ((c.entries.toList.take c.count).zipIdx).filter fun e => e.1.fits d line p c.counter c.saturated

/-- A look: the matches are decided as it begins, and the actions are taken in table order (R141). -/
def State.look (d : Domain) (line : Nat) (p : Parity) (t : Time) (s : State) : State :=
  (s.cue.fired d line p).foldl (State.fire t) s

/-- The local field parity as a line start carries it (R72). -/
def State.localParity (s : State) : Parity := if s.raster.secondField then .field2 else .field1

/-! ### The field counter (R149 to R151) -/

/-- The counter stands at a value: the saturated flag is set in LINEAR mode at 65,535, and clear
otherwise (R149). -/
def CueUnit.countAt (ring : Bool) (n : Nat) (c : CueUnit) : CueUnit :=
  { c with counter := n, saturated := !ring && n == 65535 }

/-- The step of the field counter at a local field start (R149). -/
def State.stepCounter (s : State) : State :=
  let n := s.cue.counter
  if s.ringMode then s.onCue (CueUnit.countAt true (if s.modulus ≤ n + 1 then 0 else n + 1))
  else (s.onCue (CueUnit.countAt false (min 65535 (n + 1)))).raiseIf (n == 65534) .countSaturated

/-- A captured write to the mode or the modulus: in RING mode a counter not below the modulus becomes the
modulus less one (R150). -/
def State.fitCounter (s : State) : State :=
  let n := s.cue.counter
  s.onCue (CueUnit.countAt s.ringMode (if s.ringMode then min n (s.modulus - 1) else n))

/-- COUNT_SET takes the ARG value as the mode allows, and is always ACCEPTED (R151). -/
def judgeCountSet (arg : Word) (s : State) : Verdict × State :=
  (.accepted,
    if s.ringMode then s.onCue (CueUnit.countAt true (min arg.toNat (s.modulus - 1)))
    else (s.onCue (CueUnit.countAt false arg.toNat)).raiseIf
      (arg == 65535 && s.cue.counter != 65535) .countSaturated)

/-! ### The CUE input (R153, R154) -/

/-- An accepted change: the accepted level takes the raw level and the run ends (R1, R153). -/
def Filter.accept (l : Level) : Filter := { accepted := l, run := none }

/-- The CUE uses act at a CUE pulse with the pulse's time (R154). -/
def State.actOnPulse (t : Time) (s : State) : State :=
  let a := if s.useReset then s.onCue (CueUnit.countAt s.ringMode 0) else s
  let b := if s.useAdvance then a.cueAdvance else a
  if s.useLatch then b.takeLatch .pulse t else b

/-- An accepted rise of CUE is a CUE pulse, timed with the run's start stamp (R153, R154). -/
def State.cueRise (s : State) : State :=
  match s.cue.filter.accepted, s.cue.filter.ripe s.cueWidth s.timebase with
  | .low, some t => (s.onCue fun c => { c with filter := .accept .high }).actOnPulse t
  | _, _ => s

/-- An accepted fall of CUE does nothing more (R153). -/
def State.cueFall (s : State) : State :=
  match s.cue.filter.accepted, s.cue.filter.ripe s.cueWidth s.timebase with
  | .high, some _ => s.onCue fun c => { c with filter := .accept .low }
  | _, _ => s

/-- The raw CUE level changes (R153). -/
def State.cueLevel (l : Level) (s : State) : State :=
  (s.setRawCue l).onCue fun c => { c with filter := c.filter.compare l s.timebase }

end Sys2Proof.Machine
end

