-- ==== Sys2Proof/Machine/Report.lean ====
section
/-! DEFINITION. The report block: the codes of 11.5, the words of 11.6 (R182), the live summary (R177) and the
snapshot (R163). -/

namespace Sys2Proof.Machine

/-! ### Codes (11.5, R178) -/

def Parity.code : Parity → Nat
  | .unknown => 0
  | .field1 => 1
  | .field2 => 2

/-- No verdict before any command has been judged is 0 (R178). -/
def verdictCode : Option Verdict → Nat
  | none => 0
  | some .accepted => 1
  | some .refusedState => 2
  | some .refusedArgument => 3
  | some .unknown => 4

def activeCode : Option (Fin 4) → Nat
  | some i => i.val
  | none => 4

def lastCueCode : Option Nat → Nat
  | some i => i
  | none => 63

def Origin.code : Origin → Nat
  | .entry i => i
  | .pulse => 63

def flag (b : Bool) : Nat := if b then 1 else 0

/-! ### Words -/

/-- An item of `width` bits placed with its least significant bit at bit `lo` of a report word (R182). -/
def put (v lo width : Nat) : Nat := v % 2 ^ width * 2 ^ lo

/-- A report word from its items; the bits that no item occupies read as 0 (R182). -/
def reportWord (items : List Nat) : Word := BitVec.ofNat 16 items.sum

/-- A signed item as a 16-bit two's complement word (R182). -/
def signedWord (e : Int) : Word := BitVec.ofInt 16 e

/-- Bits 15..0 of a wide item. -/
def lowHalf (n : Nat) : Word := BitVec.ofNat 16 n

/-- The 31 words of a snapshot of the present state, 0x7E1 to 0x7FF in order (R163, 11.6). -/
def State.snapshotWords (s : State) : Vector Word 31 :=
  let f := s.front
  let l := s.loop
  let a := s.align
  let k := s.keyer.ramps
  let c := s.cue
  let m := s.front.last
  let t := s.cue.latch
  #v[reportWord [put l.state.code 13 3, put f.parity.code 11 2, put (flag f.lineValid) 10 1, put f.line 0 10],
     lowHalf l.freq,
     lowHalf l.inc,
     reportWord [put (l.inc / 65536) 8 7, put (l.freq / 65536) 0 7],
     signedWord l.lastE,
     lowHalf l.pb16,
     reportWord [put (s.raster.frameLen.getD 0) 4 12, put (l.pb16 / 65536) 0 4],
     lowHalf a.distance,
     reportWord [put a.level 5 9, put (a.distance / 65536) 0 5],
     reportWord [put s.raster.line 0 11],
     lowHalf c.counter,
     lowHalf s.title.remaining,
     reportWord [put (lastCueCode c.lastCue) 8 6, put (flag k[3].moving) 7 1, put (flag k[2].moving) 6 1,
                 put (flag k[1].moving) 5 1, put (flag k[0].moving) 4 1, put (flag c.saturated) 3 1,
                 put (activeCode s.title.active) 0 3],
     reportWord [put k[1].level 8 8, put k[0].level 0 8],
     reportWord [put k[3].level 8 8, put k[2].level 0 8],
     s.att.causes,
     reportWord [put s.bus.lastCode.toNat 8 8, put (verdictCode s.bus.lastVerdict) 0 3],
     lowHalf m.accepted,
     lowHalf m.missed,
     lowHalf m.excused,
     lowHalf m.candidates,
     reportWord [put m.parity.code 12 2, put m.maxError 0 10],
     lowHalf m.shortest,
     lowHalf m.longest,
     lowHalf m.lines,
     lowHalf t.time.toNat,
     lowHalf (t.time.toNat / 65536),
     reportWord [put (flag t.lineValid) 15 1, put t.loopState.code 10 3, put t.line 0 10],
     reportWord [put t.localLine 0 11],
     signedWord t.lastE,
     reportWord [put t.seqCount 8 8, put t.origin.code 0 6]]

/-- The live summary: the loop state, broadcast valid, the active set and the attention mark (R177, 11.6). -/
def State.summary (s : State) : Word :=
  reportWord [put s.loop.state.code 0 3, put (flag s.front.lineValid) 3 1, put (activeCode s.title.active) 4 3,
              put (flag s.attention) 7 1]

end Sys2Proof.Machine
end

