-- ==== Sys2Proof/Machine/BusWatch.lean ====
section
/-! DEFINITION. The bus watcher (chapter 9): the classes of cycles (R159), capture (R160, R161), the command queue
(R164, R165), report substitution and the snapshot (R162, R163). -/

namespace Sys2Proof.Machine

/-! ### Capture (R160, R161) -/

/-- F is clamped into a new I_min..I_max and I becomes F (R49). -/
def State.refitFreq (s : State) : State := (s.onLoop fun l => { l with freq := s.clampInc l.freq }).incToFreq

/-- What the taking of a structural word brings about at once: the frame standard evaluates FRAME MISMATCH
(R77), and a word of I_min or I_max refits F (R49). -/
def State.afterStructural (i : Nat) (s : State) : State :=
  if i = 0 then s.handMismatch else if 2 ≤ i ∧ i ≤ 5 then s.refitFreq else s

/-- The width that applies to a run on CSYNC: F_fall from HIGH and F_rise from LOW (R1). -/
def State.csyncWidth (s : State) : Nat :=
  match s.front.filter.accepted with
  | .high => s.fFall
  | .low => s.fRise

/-- A new F_fall or F_rise is taken: a run in progress is judged against it from the next tick on (R2). -/
def State.holdCsync (s : State) : State :=
  s.onFront fun f => { f with filter := f.filter.takeWidth s.csyncWidth s.timebase }

/-- A new CUE filter width is taken: a run in progress is judged against it from the next tick on (R153). -/
def State.holdCue (s : State) : State :=
  s.onCue fun c => { c with filter := c.filter.takeWidth s.cueWidth s.timebase }

/-- A structural setup write is taken while the loop is OFF; else its shadow stays and SETUP LATE is raised
(R48). -/
def State.writeStructural (i : Nat) (data : Word) (lanes : Lanes) (s : State) : State :=
  if s.loop.state = .off then
    let u := if i = 8 ∨ i = 9 then s.holdCsync else s
    (u.onSetup fun p => { p with loop := writeAt p.loop i data lanes }).afterStructural i
  else s.raise .setupLate

/-- A live word of the loop setup block (R50). -/
def State.writeLoop (i : Nat) (data : Word) (lanes : Lanes) (s : State) : State :=
  s.onSetup fun p => { p with loop := writeAt p.loop i data lanes }

/-- A word of the raster, key and cue-input setup block (R114, R153). -/
def State.writeAux (i : Nat) (data : Word) (lanes : Lanes) (s : State) : State :=
  (if i = 8 then s.holdCue else s).onSetup fun p => { p with aux := writeAt p.aux i data lanes }

/-- A word of the pending ramp records (R96). -/
def State.writeRampRecord (i : Nat) (data : Word) (lanes : Lanes) (s : State) : State :=
  s.onTitle fun t => { t with pendingRamps := writeAt t.pendingRamps i data lanes }

/-- A word of the pending window sets (R96). -/
def State.writeWindowSet (i : Nat) (data : Word) (lanes : Lanes) (s : State) : State :=
  s.onTitle fun t => { t with pendingSets := writeAt t.pendingSets i data lanes }

/-- A word of the pending cue table (R135). -/
def State.writeCueTable (i : Nat) (data : Word) (lanes : Lanes) (s : State) : State :=
  s.onCue fun c => { c with pendingTable := writeAt c.pendingTable i data lanes }

/-- The attention enable mask, in force at once (R175). -/
def State.writeEnable (data : Word) (lanes : Lanes) (s : State) : State :=
  s.onAtt fun a => { a with enable := mergeLanes a.enable data lanes }

/-- The ARG shadow (R164). -/
def State.writeArg (data : Word) (lanes : Lanes) (s : State) : State :=
  s.onBus fun b => { b with arg := mergeLanes b.arg data lanes }

/-- A command joins the queue where it holds fewer than 8, and else is dropped with COMMAND OVERRUN (R165). -/
def State.enqueueCommand (c : Command) (s : State) : State :=
  if s.bus.queue.length < 8 then s.onBus fun b => { b with queue := b.queue ++ [c] } else s.raise .commandOverrun

/-- A write to CMD changes its shadow, and one that uses the high lane enqueues a command (R164). -/
def State.writeCmd (data : Word) (lanes : Lanes) (s : State) : State :=
  let w := mergeLanes s.bus.cmd data lanes
  let u := s.onBus fun b => { b with cmd := w }
  if lanes.high then u.enqueueCommand { code := highByte w, small := lowByte w, arg := s.bus.arg } else u

/-- A captured write, by the word it reaches (R161). -/
def State.capturePlace (p : Place) (data : Word) (lanes : Lanes) (s : State) : State :=
  match p with
  | .structural i => s.writeStructural i data lanes
  | .liveLoop i => s.writeLoop i data lanes
  | .counterMode i => (s.writeAux i data lanes).fitCounter
  | .aux i => s.writeAux i data lanes
  | .rampRecord i => s.writeRampRecord i data lanes
  | .enableMask => s.writeEnable data lanes
  | .windowSet i => s.writeWindowSet i data lanes
  | .cueTable i => s.writeCueTable i data lanes
  | .argument => s.writeArg data lanes
  | .command => s.writeCmd data lanes
  | .plain => s

/-- A CPU write cycle: it passes to DRAM, and where it reaches a captured word of the cue area and BRESET# is
not held, it is captured (R159, R160, R171). -/
def State.cpuWrite (addr : Addr) (data : Word) (lanes : Lanes) (s : State) : State :=
  let u := s.passCycle (.write addr data lanes)
  if s.bresetHeld then u
  else
    match s.offsetOf addr with
    | some o => u.capturePlace (placeOf o) data lanes
    | none => u

/-! ### Reads (R162, R163) -/

/-- A CPU read cycle: 0x7E0 is answered with the live summary and takes the snapshot, the other report words
with the snapshot as it stands, and every other word, and every word while BRESET# is held, with the word that
DRAM drives (R159, R162, R163, R171). -/
def State.cpuRead (addr : Addr) (read : ReadWord) (s : State) : State :=
  let dram := read.word
  let u := s.passCycle (.read addr read.lanes)
  if s.bresetHeld then u.answer dram
  else
    match s.offsetOf addr with
    | none => u.answer dram
    | some o =>
      if o = 0x7E0 then (u.answer s.summary).onBus fun b => { b with snapshot := s.snapshotWords }
      else if 0x7E1 ≤ o then u.answer (wordAt s.bus.snapshot (o - 0x7E1))
      else u.answer dram

end Sys2Proof.Machine
end

