-- ==== Sys2Proof/Machine/AttentionUnit.lean ====
section
/-! DEFINITION. The attention unit (chapter 10): the judging of ACK, and of a command that no block owns. -/

namespace Sys2Proof.Machine

/-- ACK clears the causes its mask names; FRAME MISMATCH is set again while its condition holds, and naming
RASTER FAULT clears the keyer's raster source. It is always ACCEPTED (R174, R122). -/
def judgeAck (mask : Word) (s : State) : Verdict × State :=
  let u := s.onAtt fun a => { a with causes := a.causes &&& ~~~mask }
  let v := u.raiseIf (Cause.frameMismatch.isIn mask && s.att.mismatch) .frameMismatch
  (.accepted, if Cause.rasterFault.isIn mask then v.onKeyer fun k => { k with rasterSource := false } else v)

/-- Whether a code is in the command table (section 9.5). -/
def knownCode (code : Byte) : Bool :=
  [0x01, 0x02, 0x03, 0x04, 0x08, 0x10, 0x11, 0x12, 0x20, 0x21, 0x30, 0x40].contains code

/-- A command whose code is not in the command table is judged UNKNOWN by the bus watcher itself (R166). -/
def judgeUnknown (s : State) : Verdict × State := (.unknown, s)

end Sys2Proof.Machine
end

