-- ==== Sys2Proof/Machine/FrameAlign.lean ====
section
/-! DEFINITION. The frame aligner (chapter 5): the frame check (R81, R82), the start of a slew (R83), the choice of
a level at a slew line start (R84, R85), the end of a slew (R87) and its abandon (R88). -/

namespace Sys2Proof.Machine

/-! ### The frame check -/

/-- The slew record is set whole and the loop enters SLEW (R83); the misalignment count becomes 0 (R82). -/
def State.startSlew (delta : Int) (s : State) : State :=
  (s.onAlign fun a => { a with
      count := 0, forward := decide (0 < delta), distance := 4096 * delta.natAbs, stepA := s.slewStep,
      top := max 1 (s.slewLimit / s.slewStep), level := 0, abandon := false }).enter .slew

/-- Whether a frame check is made: LOCKED, the raster captured and FRAME MISMATCH not holding (R81). -/
def State.checkMade (s : State) : Bool :=
  s.loop.state == .locked && s.raster.phase == .captured && !s.frameMismatch

/-- V_off less the local line, brought into -(N-1)/2..+(N-1)/2 (R81). -/
def State.misalignment (s : State) : Int := wrapCentred ((s.vOff : Int) - s.raster.line) s.frameLines

/-- The frame check at a broadcast field start of parity 1 (R81, R82). -/
def State.frameCheck (s : State) : State :=
  if s.checkMade then
    if s.misalignment = 0 then s.onAlign fun a => { a with count := 0 }
    else if s.align.count = 0 then s.onAlign fun a => { a with count := 1 }
    else s.startSlew s.misalignment
  else s.onAlign fun a => { a with count := 0 }

/-! ### A slew line start -/

/-- The distance still to be slipped if the level is run down from `m` to zero, this line included (R84). -/
def rundown (a m : Nat) : Nat := a * m * (m + 1) / 2

/-- Whether a level may be chosen: within 0..M, and its run-down within D (R84). -/
def Aligner.mayChoose (al : Aligner) (m : Nat) : Bool := m ≤ al.top && rundown al.stepA m ≤ al.distance

/-- The level chosen at a slew line start: the largest of m + 1, m and m - 1 that may be chosen (R84). -/
def Aligner.choose (al : Aligner) : Nat :=
  if al.mayChoose (al.level + 1) then al.level + 1
  else if al.mayChoose al.level then al.level
  else al.level - 1

/-- The level and the distance after the choice (R84). -/
def Aligner.slip (al : Aligner) : Aligner :=
  { al with level := al.choose, distance := al.distance - al.choose * al.stepA }

/-- The I of a slew line: F offset by the level (R85); the clamp is the hand-over's. -/
def State.slewInc (s : State) : Int :=
  let off := s.loop.freq * s.align.level * s.align.stepA / 4096
  if s.align.forward then s.loop.freq + off else (s.loop.freq : Int) - off

/-- Whether the slew ends at this slew line start (R87). -/
def State.slewEnds (s : State) : Bool := s.loop.state == .slew && s.align.choose == 0

/-- The state the loop enters as a slew ends (R41, R23, R87). -/
def State.afterSlew (s : State) : LoopState :=
  if s.align.abandon then .off else if s.loop.edgeless < s.mCoast then .pull else .coast

/-- A local line start taken while the loop is SLEW (R84 to R87); in other states the frame aligner does
nothing at a local line start. -/
def State.slewLine (s : State) : State :=
  if s.loop.state = .slew then
    let u := s.onAlign Aligner.slip
    let v := u.handInc u.slewInc
    if u.align.level = 0 then (v.enter v.afterSlew).raise .slewDone else v
  else s

/-! ### Abandon -/

/-- RELEASE in SLEW sets the abandon flag and D to the distance of running the level down; a second one
changes nothing (R88). -/
def Aligner.release (al : Aligner) : Aligner :=
  if al.abandon then al
  else { al with abandon := true, distance := al.stepA * al.level * (al.level - 1) / 2 }

end Sys2Proof.Machine
end

