-- ==== Sys2Proof/Machine/SyncFrontEnd.lean ====
section
/-! DEFINITION. The sync front end (chapter 1): the loop's reports (R16), the broadcast line counter (R12, R13),
field starts (R10), and pulses with their records (R3 to R9). -/

namespace Sys2Proof.Machine

/-! ### Reports to the accumulating field measure record (R16) -/

/-- The accumulating record changes. -/
def State.onAccum (f : FieldMeasure → FieldMeasure) (s : State) : State :=
  s.onFront fun e => { e with accum := f e.accum }

def FieldMeasure.addAccepted (m : FieldMeasure) : FieldMeasure := { m with accepted := bump m.accepted }
def FieldMeasure.addMissed (m : FieldMeasure) : FieldMeasure := { m with missed := bump m.missed }
def FieldMeasure.addExcused (m : FieldMeasure) : FieldMeasure := { m with excused := bump m.excused }
def FieldMeasure.addCandidate (m : FieldMeasure) : FieldMeasure := { m with candidates := bump m.candidates }
def FieldMeasure.addLine (m : FieldMeasure) : FieldMeasure := { m with lines := bump m.lines }

/-- A one-line interval is reported: taken as at most 65,535, it becomes both the shortest and the longest
where these are 0, and else replaces the shortest or the longest (R16). -/
def FieldMeasure.addInterval (i : Nat) (m : FieldMeasure) : FieldMeasure :=
  let v := min 65535 i
  if m.shortest = 0 ∧ m.longest = 0 then { m with shortest := v, longest := v }
  else { m with shortest := min m.shortest v, longest := max m.longest v }

/-- An update is reported with its error: a larger |e| replaces the maximum error (R16). -/
def FieldMeasure.addError (e : Int) (m : FieldMeasure) : FieldMeasure :=
  { m with maxError := max m.maxError e.natAbs }

/-! ### Broadcast line start events (R12, R17) -/

/-- The front end's own part of a broadcast line start event: the time of the current line, a valid counter's
advance, and the count in the field measure record (R12, R17). -/
def FrontEnd.lineStart (n : Nat) (t : Time) (f : FrontEnd) : FrontEnd :=
  { f with lineTime := some t, accum := f.accum.addLine,
           line := if f.lineValid then (if n ≤ f.line then 1 else f.line + 1) else f.line }

/-- A broadcast line start event: a numbered line start is passed on to the cue unit (R12, R139). -/
def State.broadcastLine (t : Time) (s : State) : State :=
  let u := s.onFront (FrontEnd.lineStart s.frameLines t)
  if u.front.lineValid then u.look .broadcast u.front.line u.front.parity t else u

/-! ### Phase queries (R10, R28) -/

/-- The predicted start of the line `k` lines after the base, as a distance from the base time (R28). -/
def Loop.span (l : Loop) (k : Nat) : Nat := roundDiv (k * l.pb16) 16

/-- The number of lines from the base to the predicted line start nearest to a time `d` ticks after the
base, a tie going to the later line (R10, R27, R28). -/
def Loop.nearestIndex (l : Loop) (d : Nat) : Nat :=
  let k := d * 16 / l.pb16
  if d - l.span k < l.span (k + 1) - d then k else k + 1

/-- The number of lines from the base to the line next to close. -/
def Loop.nextIndex (l : Loop) : Nat :=
  match l.lines.getLast? with
  | some o => o.line - l.baseLine
  | none => 0

/-- The distance of a time from the base. It is measured through the predicted start of the line next to close, which is
never half a timebase away, since the base of a loop that takes no edge falls ever further behind (log 19). -/
def Loop.sinceBase (l : Loop) (t : Time) : Int :=
  l.span l.nextIndex + sdiff t (later l.base (l.span l.nextIndex))

/-- The phase of a time: the time less the nearest predicted broadcast line start, brought into
-floor(Pb/2) .. Pb - floor(Pb/2) - 1 (R10). -/
def State.phaseOf (t : Time) (s : State) : Int :=
  let d := s.loop.sinceBase t
  wrapPeriod (d - s.loop.span (s.loop.nearestIndex d.toNat)) s.pb

/-! ### Field starts (R10 to R17) -/

/-- The parity of a field start of the given phase: 1 within a quarter line of a line start, else 2 (R10). -/
def State.parityOf (phi : Int) (s : State) : Parity := if 4 * phi.natAbs ≤ s.pb then .field1 else .field2

/-- The line in which the pulse of a field start began (R13). -/
def State.fieldLine (p : Parity) (s : State) : Nat :=
  match p with
  | .field2 => (s.frameLines + 1) / 2
  | _ => 1

/-- A line number wrapped into 1..N (R13). -/
def wrapLine (n : Nat) (x : Int) : Nat := ((x - 1) % n).toNat + 1

/-- A distance in ticks as a count of lines, rounded (R13). With Pb at 0 the count is free (log 33). -/
def State.linesBetween (d : Int) (s : State) : Int :=
  if s.pb = 0 then Config.linesByZero d else roundDivInt d s.pb

/-- The value the broadcast line counter must hold at a field start with leading edge `t` and phase `phi`
(R13). -/
def State.expectedLine (t : Time) (phi : Int) (s : State) : Nat :=
  let p := s.parityOf phi
  let atS := s.fieldLine p + (if p = .field2 ∧ phi < 0 then 1 else 0)
  match s.front.lineTime with
  | none => s.fieldLine p
  | some cur => wrapLine s.frameLines (atS + s.linesBetween (sdiff cur (t - BitVec.ofInt 32 phi)))

/-- The counter is forced to the expected value; FIELD IRREGULAR is raised where a valid value changes (R13). -/
def State.forceLine (v : Nat) (s : State) : State :=
  (s.onFront fun f => { f with lineValid := true, line := v }).raiseIf
    (s.front.lineValid && s.front.line != v) .fieldIrregular

/-- The accumulating record is copied whole to the last completed record and cleared with the parity of the
field that begins (R17). -/
def State.completeField (p : Parity) (s : State) : State :=
  s.onFront fun f => { f with last := f.accum, accum := .fresh p }

/-- A field start at the very instant at which a RELEASE, taken first, has moved the loop out of LOCKED: the frame check is
skipped and the misalignment count becomes 0 (R82), where R10 and R14 pass no field start to the frame aligner without a
prediction. Its parity is reckoned from the prediction the loop has just left (DEDUCED, log 41). -/
def State.skipCheck (t : Time) (s : State) : State :=
  if s.align.released = some s.timebase ∧ s.parityOf (s.phaseOf t) = .field1 then s.onAlign fun a => { a with count := 0 }
  else s

/-- A broadcast field start with leading edge `t` (R10, R11, R13, R14, R17, R82). -/
def State.fieldStart (t : Time) (s : State) : State :=
  if s.loop.valid then
    let phi := s.phaseOf t
    let p := s.parityOf phi
    let u := ((s.forceLine (s.expectedLine t phi)).onFront fun f => { f with parity := p }).completeField p
    if p = .field1 then u.frameCheck else u
  else (s.completeField .unknown).skipCheck t

/-! ### Pulse records (R3 to R9) -/

/-- The class of a width against W_eq and W_broad in force (R5). -/
def State.classify (width : Nat) (s : State) : PulseClass :=
  if width < s.wEq then .narrow else if s.wBroad ≤ width then .broad else .line

/-- The field detector sees a completed record (R9, R10). -/
def State.detect (p : Pulse) (s : State) : State :=
  if p.cls = .broad then
    let u := if 6 ≤ s.front.runCount then s.fieldStart p.lead else s
    u.onFront fun f => { f with runCount := 0 }
  else s.onFront fun f => { f with runCount := bump f.runCount }

/-- A completed record joins the pulse queue, or finds it full and is discarded with PULSE OVERRUN (R7). -/
def State.enqueuePulse (p : Pulse) (s : State) : State :=
  if s.front.queue.length < 4 then s.onFront fun f => { f with queue := f.queue ++ [p] }
  else s.raise .pulseOverrun

/-- A completed record is handed to the field detector and to the pulse queue (R6). -/
def State.completePulse (p : Pulse) (s : State) : State := (s.detect p).enqueuePulse p

/-- An accepted fall starts a pulse where none is in progress (R3). -/
def State.csyncFall (s : State) : State :=
  match s.front.filter.accepted, s.front.filter.ripe s.fFall s.timebase with
  | .high, some t =>
    s.onFront fun f => { f with filter := .accept .low, pulse := some (f.pulse.getD t) }
  | _, _ => s

/-- An accepted rise completes the pulse in progress, or clears the wait-for-rise flag (R3, R4). -/
def State.csyncRise (s : State) : State :=
  match s.front.filter.accepted, s.front.filter.ripe s.fRise s.timebase with
  | .low, some t =>
    let u := s.onFront fun f => { f with filter := .accept .high, pulse := none, waitRise := false }
    match s.front.pulse with
    | some lead =>
      let width := min 65535 (sdiff t lead).toNat
      u.completePulse { lead := lead, width := width, cls := s.classify width }
    | none => u
  | _, _ => s

/-- A pulse still in progress 65,535 ticks after its leading edge completes as a BROAD record, and the
wait-for-rise flag is set (R4). -/
def State.saturate (s : State) : State :=
  match s.front.pulse with
  | some lead =>
    if 65535 ≤ sdiff s.timebase lead then
      (s.onFront fun f => { f with pulse := none, waitRise := true }).completePulse
        { lead := lead, width := 65535, cls := .broad }
    else s
  | none => s

/-- The raw CSYNC level changes (R1). -/
def State.csyncLevel (l : Level) (s : State) : State :=
  (s.setRawCsync l).onFront fun f => { f with filter := f.filter.compare l s.timebase }

end Sys2Proof.Machine
end

