-- ==== Sys2Proof/Machine/LineLoop.lean ====
section
/-! DEFINITION. The line lock loop (chapters 2 and 3): the judging of the loop commands, the taking of records, edges
and updates, candidates and rephase, closing and settling of lines, coast and holdover, the seek and its
computation. -/

namespace Sys2Proof.Machine

/-! ### Commands (R22 to R25) -/

/-- ENGAGE moves the loop from OFF to SEEK (R22). -/
def judgeEngage (s : State) : Verdict × State :=
  if s.loop.state = .off then (.accepted, s.enter .seek) else (.refusedState, s)

/-- RELEASE moves the loop to OFF, abandons a slew in SLEW, and is refused in OFF (R23, R88). From LOCKED it leaves its
instant with the frame aligner (R82, log 41). -/
def judgeRelease (s : State) : Verdict × State :=
  match s.loop.state with
  | .off => (.refusedState, s)
  | .slew => (.accepted, s.onAlign Aligner.release)
  | .locked => (.accepted, (s.enter .off).onAlign fun a => { a with released := some s.timebase })
  | _ => (.accepted, s.enter .off)

/-- FREEZE moves the loop from PULL, LOCKED or COAST to FROZEN (R24). -/
def judgeFreeze (s : State) : Verdict × State :=
  match s.loop.state with
  | .pull | .locked | .coast => (.accepted, s.enter .frozen)
  | _ => (.refusedState, s)

/-- RESUME moves the loop from FROZEN to COAST (R25). -/
def judgeResume (s : State) : Verdict × State :=
  if s.loop.state = .frozen then (.accepted, s.enter .coast) else (.refusedState, s)

/-! ### Predictions and open lines (R27, R28) -/

/-- The predicted start of the line `k` lines after the base (R28). -/
def Loop.predict (l : Loop) (k : Nat) : Time := later l.base (l.span k)

/-- The marks or the prediction of one open line change. -/
def Loop.onLine (n : Nat) (f : OpenLine → OpenLine) (l : Loop) : Loop :=
  { l with lines := l.lines.map fun o => if o.line = n then f o else o }

/-- A time and its line become the base and the edge reference: the base line is predicted at the time, later
lines from it, and the open lines before it keep the predictions they had (R28, R31, R44). -/
def Loop.rebase (t : Time) (n : Nat) (l : Loop) : Loop :=
  let b := { l with base := t, baseLine := n, refTime := t, refLine := n }
  { b with lines := l.lines.map fun o => if o.line < n then o else { o with pred := b.predict (o.line - n) } }

/-- An open line as it opens. -/
def Loop.newLine (l : Loop) (n : Nat) : OpenLine :=
  { line := n, pred := l.predict (n - l.baseLine), closed := false, edge := false, excused := false,
    candidate := false }

/-- The line next to close is marked closed, and the line after it becomes the next to close (R33). -/
def Loop.closeLast (l : Loop) : Loop :=
  match l.lines.getLast? with
  | none => l
  | some o => { l with lines := l.lines.dropLast ++ [{ o with closed := true }, l.newLine (o.line + 1)] }

/-- The open line whose prediction is nearest to a time, a tie going to the later line (R27). -/
def nearestLine (t : Time) : List OpenLine → Option OpenLine
  | [] => none
  | o :: rest =>
    match nearestLine t rest with
    | none => some o
    | some r => if (sdiff t o.pred).natAbs < (sdiff t r.pred).natAbs then some o else some r

/-- Whether a time lies before the share of the oldest open line: nearer to the line before it (R27, log 17). -/
def Loop.isStray (l : Loop) (t : Time) : Bool :=
  match l.lines with
  | [] => true
  | o :: _ => decide (sdiff t l.priorPred < sdiff o.pred t)

/-- The open line a record of leading-edge time `t` is given to; none for a stray record (R27). -/
def Loop.lineFor (l : Loop) (t : Time) : Option OpenLine := if l.isStray t then none else nearestLine t l.lines

/-- The gate half-width a close is compared with (R33). -/
def State.gate (s : State) : Nat :=
  match s.loop.state with
  | .pull | .coast => s.gW
  | _ => s.gN

/-! ### Closing a line (R33, R39) -/

/-- In COAST each line close adds one to the holdover count; where the count is then at or beyond H_hold,
HOLDOVER_EXPIRED is owed (R39, R50). -/
def State.countHoldover (s : State) : State :=
  if s.loop.state = .coast then
    s.onLoop fun l =>
      { l with holdCount := l.holdCount + 1, holdoverOwed := decide (s.hHold ≤ l.holdCount + 1) }
  else s

/-- The line next to close closes, with the start event carrying time `t` (R31, R33). -/
def State.closeLine (t : Time) (s : State) : State := ((s.onLoop Loop.closeLast).broadcastLine t).countHoldover

/-- The prediction of the line next to close, where its close is due: the timebase has reached the prediction
plus the gate half-width (R33). -/
def State.closeDue (s : State) : Option Time :=
  match s.loop.lines.getLast? with
  | some o => if s.loop.valid ∧ (s.gate : Int) ≤ sdiff s.timebase o.pred then some o.pred else none
  | none => none

/-- A line closes on its prediction where that is due (R33). -/
def State.closeIfDue (s : State) : State :=
  match s.closeDue with
  | some t => s.closeLine t
  | none => s

/-! ### The period estimate, the phase error and the update (R32, R56 to R60) -/

/-- The period estimate after a one-line interval, clamped to 16 P_lo .. 16 P_hi (R32). -/
def State.nextPb16 (i : Int) (s : State) : Nat :=
  clampInt (16 * s.pLo) (16 * s.pHi) (s.loop.pb16 + i - s.pb)

/-- The error of an update: the most recent local line start less the edge less H_off, wrapped and clamped
(R56 to R58). -/
def State.phaseError (t : Time) (s : State) : Int :=
  max (-1023) (min 1023 (wrapPeriod (sdiff s.raster.lastStart t - s.hOff) s.pb))

/-- The gains of the state in force: those of PULL, and those of LOCKED (R59, R60). -/
def State.gainI (s : State) : Nat := if s.loop.state = .pull then s.giPull else s.giLock
def State.gainP (s : State) : Nat := if s.loop.state = .pull then s.gpPull else s.gpLock

/-- F after an update with error `e` (R59). -/
def State.nextFreq (e : Int) (s : State) : Nat := s.clampInc (s.loop.freq + e * s.gainI)

/-- An update with error `e`: F, then I, the last e, and the report (R59, R60, R58, R16). With both gains 0 and I other than
F, as after an update with other gains, I becomes F (R60), where R62 says that the update leaves F and I unchanged: the
model follows R60 (DEDUCED, log 40). -/
def State.update (e : Int) (s : State) : State :=
  let f := s.nextFreq e
  ((s.onLoop fun l => { l with freq := f, lastE := e }).handInc (f + e * s.gainP)).onAccum
    (FieldMeasure.addError e)

/-! ### Transitions on an accepted edge (R36, R37, R39) -/

/-- The lock count after an update in PULL; at N_lock the loop enters LOCKED and raises LOCK GAINED (R36). -/
def State.moveLock (e : Int) (s : State) : State :=
  let n := if e.natAbs ≤ s.tLock then s.loop.lockCount + 1 else 0
  let u := s.onLoop fun l => { l with lockCount := n }
  if s.nLock ≤ n then (u.enter .locked).raise .lockGained else u

/-- The unlock count after an update in LOCKED; at N_unlock the loop enters PULL (R37). -/
def State.moveUnlock (e : Int) (s : State) : State :=
  let n := if s.tUnlock < e.natAbs then s.loop.unlockCount + 1 else 0
  let u := s.onLoop fun l => { l with unlockCount := n }
  if s.nUnlock ≤ n then u.enter .pull else u

/-- The return count after an accepted edge in COAST; at R_return the loop enters PULL (R39). Where the same
edge has also run the holdover out, which of the two transitions follows is left open (log 7). -/
def State.moveReturn (s : State) : State :=
  let n := s.loop.returnCount + 1
  let u := s.onLoop fun l => { l with returnCount := n }
  if s.rReturn ≤ n then
    if s.loop.holdoverOwed then
      if u.tie.1 then u.tie.2.enter .pull else u.tie.2
    else u.enter .pull
  else u

/-! ### Edges (R29 to R31) -/

/-- An accepted edge's interval from the edge reference, where that lies exactly one line before, updates Pb16
and is reported (R31, R32, R16). -/
def State.takeInterval (t : Time) (n : Nat) (s : State) : State :=
  if s.loop.refLine + 1 = n then
    let i := sdiff t s.loop.refTime
    (s.onLoop fun l => { l with pb16 := s.nextPb16 i }).onAccum (FieldMeasure.addInterval i.toNat)
  else s

/-- The edge becomes the base and the edge reference, its line has its edge taken, and the edgeless count
becomes 0 (R30, R31). -/
def State.takeEdge (t : Time) (n : Nat) (s : State) : State :=
  s.onLoop fun l => { (l.rebase t n).onLine n (fun o => { o with edge := true }) with edgeless := 0 }

/-- The update and the counts that an accepted edge moves in its state (R31, R36, R37, R39, R43). -/
def State.settleEdge (t : Time) (s : State) : State :=
  let e := s.phaseError t
  match s.loop.state with
  | .pull => (s.update e).moveLock e
  | .locked => ((s.onLoop fun l => { l with candidates := [] }).update e).moveUnlock e
  | .coast => s.moveReturn
  | _ => s

/-- The missed run becomes 0 at an accepted edge in PULL and LOCKED (R31). -/
def State.clearMissed (s : State) : State :=
  match s.loop.state with
  | .pull | .locked => s.onLoop fun l => { l with missedRun := 0 }
  | _ => s

/-- An accepted edge, as one step (R31). -/
def State.acceptEdge (t : Time) (o : OpenLine) (s : State) : State :=
  let u := (((s.onAccum FieldMeasure.addAccepted).takeInterval t o.line).takeEdge t o.line).clearMissed
  (if o.closed then u else u.closeLine t).settleEdge t

/-- A rephase: the newest entry becomes the base and the edge reference, REPHASE is raised, and the loop enters
PULL (R44). -/
def State.rephase (t : Time) (n : Nat) (s : State) : State :=
  ((s.onLoop (Loop.rebase t n)).enter .pull).raise .rephase

/-- The candidate list after an entry: emptied first where the offset differs from the first entry's by more
than G_n (R42). -/
def joinCandidates (gn : Nat) (c : Candidate) (list : List Candidate) : List Candidate :=
  match list with
  | [] => [c]
  | first :: _ => if gn < (c.offset - first.offset).natAbs then [c] else list ++ [c]

/-- A wide edge in LOCKED is entered as a candidate, and the loop rephases at J_rephase entries (R42, R44). -/
def State.addCandidate (t : Time) (off : Int) (n : Nat) (s : State) : State :=
  let list := joinCandidates s.gN { time := t, offset := off } s.loop.candidates
  let u := (s.onAccum FieldMeasure.addCandidate).onLoop fun l =>
    { l.onLine n (fun o => { o with edge := true, candidate := true }) with candidates := list }
  if s.jRephase ≤ list.length then u.rephase t n else u

/-- A normal edge, by state (R30). -/
def State.normalEdge (t : Time) (o : OpenLine) (s : State) : State :=
  match s.loop.state with
  | .pull | .coast | .locked => s.acceptEdge t o
  | .frozen | .slew => s.takeEdge t o.line
  | _ => s

/-- A wide edge, by state (R30). -/
def State.wideEdge (t : Time) (off : Int) (o : OpenLine) (s : State) : State :=
  match s.loop.state with
  | .pull | .coast => s.acceptEdge t o
  | .locked => s.addCandidate t off o.line
  | _ => s

/-- A record is judged against the line it is given to (R29, R35). -/
def State.judgeRecord (p : Pulse) (o : OpenLine) (s : State) : State :=
  match p.cls with
  | .narrow | .broad => s.onLoop (Loop.onLine o.line fun x => { x with excused := true })
  | .line =>
    let off := sdiff p.lead o.pred
    if o.edge then s
    else if off.natAbs ≤ s.gN then s.normalEdge p.lead o
    else if off.natAbs ≤ s.gW then s.wideEdge p.lead off o
    else s

/-! ### Seek (R45, R53) -/

/-- A LINE record in SEEK with a previous LINE time: a good interval is added, any other starts the count
again, and the sixteenth good interval begins the seek computation (R45, R53). -/
def Seek.addInterval (dots : Nat) (good : Bool) (i : Nat) (t : Time) (k : Seek) : Seek :=
  let acc := if good then k.acc + i else 0
  let count := if good then k.count + 1 else 0
  if 16 ≤ count then { prev := some t, acc := acc, count := count, inFlight := true, lineStarts := 0, dots := dots }
  else { k with prev := some t, acc := acc, count := count }

/-- A record taken in SEEK (R45). -/
def State.seekRecord (p : Pulse) (s : State) : State :=
  match p.cls with
  | .narrow | .broad => s.onLoop fun l => { l with seek := { l.seek with prev := none, acc := 0, count := 0 } }
  | .line =>
    match s.loop.seek.prev with
    | none => s.onLoop fun l => { l with seek := { l.seek with prev := some p.lead } }
    | some prev =>
      let i := sdiff p.lead prev
      let good := decide ((s.pLo : Int) ≤ i ∧ i ≤ s.pHi)
      let k := s.loop.seek.addInterval s.setupDots good i.toNat p.lead
      s.onLoop fun l => { l with seek := k, pb16 := if k.inFlight then k.acc else l.pb16 }

/-! ### Taking a record (R8, R27) -/

/-- A record taken is judged in the state in force (R27). -/
def State.takeRecord (p : Pulse) (s : State) : State :=
  match s.loop.state with
  | .off => s
  | .seek => s.seekRecord p
  | _ =>
    match s.loop.lineFor p.lead with
    | none => s
    | some o => s.judgeRecord p o

/-- The record at the head of the pulse queue leaves it and is judged; while the seek computation is in flight
nothing is taken (R8, R27). -/
def State.takeHead (s : State) : State :=
  match s.front.queue with
  | [] => s
  | p :: rest =>
    if s.loop.seek.inFlight then s else (s.onFront fun f => { f with queue := rest }).takeRecord p

/-! ### Settling a line (R34, R38) -/

/-- Whether a time lies before the end of the share of a line, the next line being `b` (R28, R34). -/
def beforeEnd (o b : OpenLine) (t : Time) : Bool := decide (sdiff t o.pred < sdiff b.pred t)

/-- Whether a pulse that began within the share of the oldest open line is still in progress or waiting in the
pulse queue (R34, log 18). -/
def State.pulseOutstanding (o b : OpenLine) (s : State) : Bool :=
  (s.front.pulse.toList ++ s.front.queue.map Pulse.lead).any fun t => !s.loop.isStray t && beforeEnd o b t

/-- The outcomes of a settled line (R34). ACCEPTED and HELD move the same counts at settlement: none. -/
inductive SettleOutcome where
  | edge
  | candidate
  | excused
  | missed
  deriving DecidableEq, Repr

/-- The outcome of a line, tested in the order of R34. -/
def OpenLine.result (o : OpenLine) : SettleOutcome :=
  if o.edge && !o.candidate then .edge
  else if o.candidate then .candidate
  else if o.excused then .excused
  else .missed

/-- The edgeless count goes up by one, saturating (R34). -/
def State.addEdgeless (s : State) : State := s.onLoop fun l => { l with edgeless := bump l.edgeless }

/-- A MISSED outcome moves the counts of the state in force, and leads to COAST at M_coast (R34, R38, R39). A line that was
given none but outside records is MISSED too, and in PULL it sets the lock count to 0 (R34), where R36 says that lines
with outside records leave the count as it is: the model follows R34 (DEDUCED, log 39). -/
def State.countMissed (s : State) : State :=
  match s.loop.state with
  | .pull =>
    let u := s.onLoop fun l => { l with missedRun := l.missedRun + 1, lockCount := 0 }
    if s.mCoast ≤ s.loop.missedRun + 1 then u.enter .coast else u
  | .locked =>
    let u := s.onLoop fun l => { l with missedRun := l.missedRun + 1 }
    if s.mCoast ≤ s.loop.missedRun + 1 then u.enter .coast else u
  | .coast => s.onLoop fun l => { l with returnCount := 0 }
  | _ => s

/-- A line settles with its outcome, its reports and its counts, and leaves the open lines (R34). -/
def State.settleAs (o : OpenLine) (s : State) : State :=
  let u := s.onLoop fun l => { l with lines := l.lines.tail, priorPred := o.pred }
  match o.result with
  | .edge => u
  | .candidate => u.addEdgeless
  | .excused => (u.onAccum FieldMeasure.addExcused).addEdgeless
  | .missed => ((u.onAccum FieldMeasure.addMissed).addEdgeless).countMissed

/-- The oldest open line, where it may settle: closed, the timebase past the end of its share, and no pulse
outstanding in its share (R34). -/
def State.settleDue (s : State) : Option OpenLine :=
  match s.loop.lines with
  | o :: b :: _ =>
    if s.loop.valid && o.closed && !beforeEnd o b s.timebase && !s.pulseOutstanding o b then some o else none
  | _ => none

/-- The oldest open line settles where that is due (R34). -/
def State.settleIfDue (s : State) : State :=
  match s.settleDue with
  | some o => s.settleAs o
  | none => s

/-! ### The seek computation completes (R47, R54, R55) -/

/-- I_seek (R54). With Pb16 at 0 there is no quotient, and the value is free (log 26). -/
def Seek.result (k : Seek) (pb16 : Nat) : Nat :=
  if pb16 = 0 then Config.quotientByZero k.dots else roundDiv (k.dots * 2 ^ 28) pb16

/-- Lines whose close times have already passed close at once, in order (R47), up to a number of them. -/
def State.closePassed : Nat → State → State
  | 0, s => s
  | fuel + 1, s =>
    match s.closeDue with
    | some t => (s.closeLine t).closePassed fuel
    | none => s

/-- The prediction becomes valid with the closing edge as its base and edge reference, on the base line, which
has no start event and is not settled (R47). The base line is numbered 0 (log 16). -/
def Loop.engage (edge : Time) (l : Loop) : Loop :=
  let b := { l with valid := true, base := edge, baseLine := 0, refTime := edge, refLine := 0, priorPred := edge,
                    seek := { l.seek with inFlight := false } }
  { b with lines := [b.newLine 1] }

/-- As many closes as bring the predictions past a number of ticks: sixteen lines last Pb16 ticks, which is at least one
tick. With Pb16 at 0 no number of lines does, and the number of closes is free (log 33). -/
def closesFor (pb16 ticks : Nat) : Nat := if pb16 = 0 then Config.closesByZero ticks else 16 * (ticks + 1)

/-- The result is accepted: F and I take it and the loop enters PULL with a valid prediction (R47, R55). -/
def State.acceptSeek (s : State) : State :=
  let r := s.loop.seek.result s.loop.pb16
  let edge := s.loop.seek.prev.getD 0
  let u := (((s.onLoop fun l => { l with freq := r }).handInc r).enter .pull).onLoop (Loop.engage edge)
  u.closePassed (closesFor u.loop.pb16 (u.timebase - edge).toNat)

/-- The result is discarded and OFF STANDARD is raised; the seek starts again (R47, R55). -/
def State.discardSeek (s : State) : State :=
  (s.onLoop fun l => { l with seek := { l.seek with prev := none, acc := 0, count := 0, inFlight := false } }).raise
    .offStandard

/-- Whether the seek computation is due to complete: in flight, at the second local line start (R46). -/
def State.seekDue (s : State) : Bool := s.loop.seek.inFlight && decide (2 ≤ s.loop.seek.lineStarts)

/-- The seek computation completes where that is due (R47, R55). -/
def State.completeSeek (s : State) : State :=
  if s.seekDue then
    let r := s.loop.seek.result s.loop.pb16
    if s.iMin ≤ r ∧ r ≤ s.iMax then s.acceptSeek else s.discardSeek
  else s

/-- A local line start is counted by a seek computation in flight (R46). -/
def State.countSeekLine (s : State) : State :=
  if s.loop.seek.inFlight then
    s.onLoop fun l => { l with seek := { l.seek with lineStarts := l.seek.lineStarts + 1 } }
  else s

end Sys2Proof.Machine
end

