-- ==== Sys2Proof/Machine/CommandTable.lean ====
section
/-! DEFINITION. The command table (section 9.5), the delivery of the queue at once (R166), and the rows that a delivery
must come before. -/

namespace Sys2Proof.Machine

/-- A command is judged by the owner its code names, and one whose code is not in the table by the bus watcher. -/
def Command.judge (c : Command) : State → Verdict × State :=
  match c.code.toNat with
  | 0x01 => judgeEngage
  | 0x02 => judgeRelease
  | 0x03 => judgeFreeze
  | 0x04 => judgeResume
  | 0x08 => judgeAdopt
  | 0x10 => judgeShow c.small
  | 0x11 => judgeStop
  | 0x12 => judgeAdvance
  | 0x20 => judgeFade c.small c.arg
  | 0x21 => judgeCut c.small c.arg
  | 0x30 => judgeCountSet c.arg
  | 0x40 => judgeAck c.arg
  | _ => judgeUnknown

/-- The commands of a queue are delivered one at a time, in order, until `stop` holds of the head or it must wait
(R166, R167). -/
def State.serveUntil (stop : Command → Bool) : List Command → State → State
  | [], s => s
  | c :: rest, s =>
    if stop c || s.mustWait c then s else (s.takeCommand c.judge c rest).serveUntil stop rest

/-- Every command that can be delivered is, in order (R166). -/
def State.serve (s : State) : State :=
  if s.listening then s.serveUntil (fun _ => false) s.bus.queue else s

/-- The instant moves on to `now`. Commands are delivered at once, so none that can be delivered outlasts its instant;
against the other steps of its instant it may come first or second (R26, R166, log 15). -/
def State.moveOn (now : Time) (s : State) : State := (if now = s.timebase then s else s.serve).advanceTo now

/-- A command that has become the head is delivered, unless it must wait. One presented to an empty queue joins it, is
the head at once and is delivered at once (R166, log 15). -/
def State.deliver (judge : State → Verdict × State) (c : Command) (s : State) : State :=
  match s.bus.queue with
  | [] => if s.mustWait c then s.onBus fun b => { b with queue := [c] } else s.takeCommand judge c []
  | h :: rest => if h = c ∧ s.mustWait c = false then s.takeCommand judge c rest else s

/-- The row of a command: the commands ahead of it are delivered, and then it is, in its turn (R166). Behind a head that
must wait it is not in its turn, and while BRESET# is held there is no command (R171): the row then has no
effect (log 15). -/
def State.deliverInTurn (judge : State → Verdict × State) (c : Command) (s : State) : State :=
  if s.listening then (s.serveUntil (fun h => h == c) s.bus.queue).deliver judge c else s

end Sys2Proof.Machine
end

