-- ==== Sys2Proof/Machine/Keying.lean ====
section
/-! DEFINITION. The keyer's part of a line (sections 7.2 to 7.5): the decision for a pixel, key records, the key
delay line and presentation. -/

namespace Sys2Proof.Machine

/-! ### The decision for one pixel (R93, R115 to R117) -/

/-- Whether a window contains the pixel at a local line and a pixel column (R93). -/
def Window.contains (w : Window) (line col : Nat) : Bool :=
  w.top ≤ line && line ≤ w.bottom && w.left ≤ col && col ≤ w.right

/-- The level of a window as a fetch is judged (R93, R115). -/
def State.windowLevel (w : Window) (s : State) : Nat :=
  match w.source with
  | .fixed => w.level
  | .ramp r => s.keyer.ramps[r].level

/-- The computer shown at a level, or the programme at level 0 (R117). -/
def cellOf (level : Nat) : KeyCell :=
  if level = 0 then .programme else { key := true, mix := BitVec.ofNat 4 (level / 16) }

/-- The background rule (R116). -/
def State.background (s : State) : KeyCell := if s.backComputer then cellOf 255 else .programme

/-- What the deciding window shows for a pixel index (R115). -/
def State.windowCell (w : Window) (index : Nat) (s : State) : KeyCell :=
  match w.mode with
  | .opaqueMode => cellOf (s.windowLevel w)
  | .indexKey => if index = w.keyIndex then .programme else cellOf (s.windowLevel w)
  | .matte => .programme

/-- The windows the keyer looks through: those of the live active set (R101, R115). -/
def State.activeWindows (s : State) : List Window :=
  match s.title.active with
  | none => []
  | some i => s.title.sets[i].windows.toList

/-- The decision for the pixel at a column with an index: the first enabled window that contains it, or the
background rule (R115, R116). -/
def State.decidePixel (col index : Nat) (s : State) : KeyCell :=
  match s.activeWindows.find? fun w => w.enabled && w.contains s.keyer.keyLine col with
  | some w => s.windowCell w index
  | none => s.background

/-! ### Fetches (R112, R119) -/

/-- The pixel index at place `i` of a fetched word, the leftmost in the most significant bits (section 7.2). -/
def pixelIndex (word : Word) (i : Nat) : Nat := bits word (12 - 4 * i) 4

/-- Whether the presentation dot of a column has passed in the present keying line: the dot in progress is
taken, and past a wrap every dot is (R119, R120, log 22). -/
def State.columnPast (col : Nat) (s : State) : Bool :=
  match s.keyer.span with
  | .notBegun => false
  | .begun => col + s.keyer.colZero ≤ s.raster.dot
  | .pastWrap => true

/-- The cell of a fetch for one column: empty below column 0 and where the column is past (R112, R119). -/
def State.fetchCell (col : Int) (index : Nat) (s : State) : Option KeyCell :=
  if col < 0 then none
  else if s.columnPast col.toNat then none
  else some (s.decidePixel col.toNat index)

/-- The key record of a fetch judged with the fetch count as it stands (R112, R118). -/
def State.fetchRecord (word : Word) (s : State) : KeyRecord :=
  let c : Int := 4 * (s.keyer.fetchCount : Int) - s.keyer.origin
  { first := c
    cells := #v[s.fetchCell c (pixelIndex word 0), s.fetchCell (c + 1) (pixelIndex word 1),
                s.fetchCell (c + 2) (pixelIndex word 2), s.fetchCell (c + 3) (pixelIndex word 3)] }

/-- Whether every column of a record is empty. -/
def KeyRecord.isEmpty (r : KeyRecord) : Bool := r.cells.toList.all Option.isNone

/-- A fetch judged: its record joins the tail of the delay line, unless it is empty or the line holds 24
records already; the fetch count goes up by one and stops at 1023, where a fetch gives no record (R112, R119). -/
def State.judgeFetch (word : Word) (s : State) : State :=
  if s.keyer.fetchCount < 1023 then
    let r := s.fetchRecord word
    s.onKeyer fun k =>
      { k with
        delay := if r.isEmpty || decide (24 ≤ k.delay.length) then k.delay else k.delay ++ [r]
        fetchCount := k.fetchCount + 1 }
  else s

/-! ### Presentation (R119, R120) -/

/-- The cell a record holds for a column. -/
def KeyRecord.cellAt (r : KeyRecord) (col : Int) : Option KeyCell :=
  if r.first ≤ col ∧ col ≤ r.first + 3 then (r.cells[(col - r.first).toNat]?).join else none

/-- The place of the last column of a record that is not empty. -/
def KeyRecord.lastPlace (r : KeyRecord) : Nat :=
  if r.cells[3].isSome then 3 else if r.cells[2].isSome then 2 else if r.cells[1].isSome then 1 else 0

/-- The cell presented in a dot: that of the record that holds the column whose presentation dot it is (R120). -/
def Keyer.cellFor (dot : Nat) (k : Keyer) : KeyCell :=
  if k.span = .begun then
    (k.delay.findSome? fun r => r.cellAt ((dot : Int) - k.colZero)).getD .programme
  else .programme

/-- At the end of a dot the records whose last column has been presented leave the delay line (R119). -/
def Keyer.leave (dot : Nat) (k : Keyer) : Keyer :=
  if k.span = .begun then
    { k with delay := k.delay.filter fun r => decide ((dot : Int) < r.first + r.lastPlace + k.colZero) }
  else k

/-- A dot begins: the cell of its column is presented (R120). -/
def Keyer.present (dot : Nat) (k : Keyer) : Keyer := { k with shown := k.cellFor dot }

/-- A wrap of the dot counter begins a keying line whose LHS came before it, and is past the keying line it
falls in (R120, log 22). -/
def KeySpan.atWrap : KeySpan → KeySpan
  | .notBegun => .begun
  | .begun => .pastWrap
  | .pastWrap => .pastWrap

/-- An LHS begins a new keying line at the keyer: `line` is the local line it begins, and `begun` tells
whether that line has begun (R111, R120). -/
def State.beginKeying (line : Nat) (begun : Bool) (s : State) : State :=
  s.onKeyer fun k =>
    { k with fetchCount := 0, delay := [], origin := s.setupOrigin, colZero := s.setupColZero, keyLine := line,
             span := if begun then .begun else .notBegun }

end Sys2Proof.Machine
end

