-- ==== Sys2Proof/Machine/Resets.lean ====
section
/-! DEFINITION. The resets: what BRESET# resets (R170), and the release of RESET#. -/

namespace Sys2Proof.Machine

/-- The bus watcher at the assertion of BRESET# (R170): the snapshot and the base stay. -/
def Bus.busReset (b : Bus) : Bus :=
  { b with queue := [], arg := 0, cmd := 0, lastCode := 0, lastVerdict := none }

/-- The keyer at the assertion of BRESET# (R134): the ramp units and the two sources. -/
def Keyer.busReset (k : Keyer) : Keyer :=
  { k with ramps := Vector.replicate 4 Ramp.reset, rasterSource := false, cueHold := false }

/-- The cue unit at the assertion of BRESET# (R157): the CUE filter stays. -/
def CueUnit.busReset (c : CueUnit) : CueUnit := { CueUnit.reset .low with filter := c.filter }

/-- The attention unit at the assertion of BRESET#: no cause pending but FRAME MISMATCH where its condition
holds, and the mask 0 (R176). -/
def Attention.busReset (a : Attention) : Attention :=
  { causes := if a.mismatch then Cause.frameMismatch.mark else 0, enable := 0, mismatch := a.mismatch }

/-- BRESET# resets the title side and the software interface; the sync front end, the loop, the frame
aligner, the synthesiser, the raster counter and the setup stay (R20, R52, R65, R79, R92, R110, R170). -/
def State.busReset (s : State) : State :=
  ((((s.onBus Bus.busReset).onTitle fun _ => Title.reset).onKeyer Keyer.busReset).onCue CueUnit.busReset).onAtt
    Attention.busReset

/-- Release of RESET# (R78, R156, R19): the CUE filter's accepted level is the raw CUE level, and a CSYNC
already low begins a run on the first tick (log 11). -/
def State.releaseReset (s : State) : State :=
  ((s.setReset false).onCue fun c => { c with filter := { accepted := s.rawCue, run := none } }).onFront fun f =>
    { f with filter := f.filter.compare s.rawCsync s.timebase }

end Sys2Proof.Machine
end

