-- ==== Sys2Proof/Machine/BusRows.lean ====
section
/-! DEFINITION. The meanings of the rows of the two resets and of the bus cycles. A command that can be delivered is
delivered before the next cycle on the bus: commands are taken as fast as the CPU can write them (R166, log 15). The
assertion of BRESET# empties the queue unjudged (R92, R170). -/

namespace Sys2Proof.Machine

/-! ### Resets -/

/-- POWER_RESET (R51, R19, R65, R78, R91, R109, R133, R156, R158, R169, R176): RESET# is held, the straps are
sampled and every block takes its power-reset values. The input pins and the choices made are not the part's. -/
def execPowerReset (base : BitVec 4) (dclk : BitVec 2) (std : Standard) (s : State) :
    Host.Outcome State Fault Refusal :=
  .next (State.powerReset base dclk std s.rawCsync s.rawCue true s.bresetHeld s.choices s.pending)

/-- POWER_RESET_END (R78, R156). -/
def execPowerResetEnd (s : State) : Host.Outcome State Fault Refusal :=
  .next (if s.resetHeld then s.releaseReset.drive else s)

/-- BUS_RESET (R170): it acts once, at the assertion, and every command still in the queue is lost unjudged, a RELEASE
during a slew included (R92). -/
def execBusReset (s : State) : Host.Outcome State Fault Refusal :=
  eventOr (State.setBreset true) (fun u => u.busReset.setBreset true) s

/-- BUS_RESET_RELEASE (R171). -/
def execBusResetRelease (s : State) : Host.Outcome State Fault Refusal :=
  eventOr (State.setBreset false) (State.setBreset false) s

/-! ### Bus cycles -/

/-- CAPTURED_WRITE (R160): a CPU write cycle, classified by its address (R159, log 14). -/
def execCapturedWrite (addr : Addr) (data : Word) (lanes : Lanes) (s : State) : Host.Outcome State Fault Refusal :=
  eventOr (State.passCycle (.write addr data lanes)) (fun u => u.serve.cpuWrite addr data lanes) s

/-- STRUCTURAL_SETUP_WRITE (R48): a CPU write cycle, classified by its address (R159, log 14). -/
def execStructuralSetupWrite (addr : Addr) (data : Word) (lanes : Lanes) (s : State) : Host.Outcome State Fault Refusal :=
  eventOr (State.passCycle (.write addr data lanes)) (fun u => u.serve.cpuWrite addr data lanes) s

/-- FIELD_COUNTER_MODE_WRITE (R150): a CPU write cycle, classified by its address (R159, log 14). -/
def execFieldCounterModeWrite (addr : Addr) (data : Word) (lanes : Lanes) (s : State) : Host.Outcome State Fault Refusal :=
  eventOr (State.passCycle (.write addr data lanes)) (fun u => u.serve.cpuWrite addr data lanes) s

/-- ENABLE_MASK_WRITE (R175): a CPU write cycle, classified by its address (R159, log 14). -/
def execEnableMaskWrite (addr : Addr) (data : Word) (lanes : Lanes) (s : State) : Host.Outcome State Fault Refusal :=
  eventOr (State.passCycle (.write addr data lanes)) (fun u => u.serve.cpuWrite addr data lanes) s

/-- REPORT_SUMMARY_READ (R163): a CPU read cycle, classified by its address (R159, log 14). -/
def execReportSummaryRead (addr : Addr) (dram : ReadWord) (s : State) : Host.Outcome State Fault Refusal :=
  eventOr (fun u => (u.passCycle (.read addr dram.lanes)).answer dram.word) (fun u => u.serve.cpuRead addr dram) s

/-- The cycle of a display fetch as it passes, of read or of write direction (R159). -/
def fetchPassed (addr : Addr) (word : FetchWord) : BusCycle :=
  if word.write then .fetchWrite addr word.word word.lanes else .fetch addr word.lanes

/-- A display fetch passes unchanged, and in a read the shared bus receives the word DRAM returned (R159). -/
def State.fetchCycle (addr : Addr) (word : FetchWord) (s : State) : State :=
  if word.write then s.passCycle (fetchPassed addr word) else (s.passCycle (fetchPassed addr word)).answer word.word

/-- DISPLAY_FETCH (R112, R159): the cycle passes and the keyer judges its data word, while BRESET# is held as well (R171).
In a cycle of write direction, where DRAM returns nothing, that is the word the cycle writes (DEDUCED, log 42). -/
def execDisplayFetch (addr : Addr) (word : FetchWord) (s : State) : Host.Outcome State Fault Refusal :=
  eventOr (State.fetchCycle addr word) (fun u => (u.serve.fetchCycle addr word).judgeFetch word.word) s

end Sys2Proof.Machine
end

