-- ==== Sys2Proof/Machine/CommandRows.lean ====
section
/-! DEFINITION. The meanings of the thirteen command rows: each delivers its command in its turn (R166) to the owner
that judges it. -/

namespace Sys2Proof.Machine

/-- ENGAGE (R22). -/
def execEngage (small : Byte) (arg : Word) (s : State) : Host.Outcome State Fault Refusal :=
  event (State.deliverInTurn judgeEngage ⟨0x01, small, arg⟩) s

/-- RELEASE (R23). -/
def execRelease (small : Byte) (arg : Word) (s : State) : Host.Outcome State Fault Refusal :=
  event (State.deliverInTurn judgeRelease ⟨0x02, small, arg⟩) s

/-- FREEZE (R24). -/
def execFreeze (small : Byte) (arg : Word) (s : State) : Host.Outcome State Fault Refusal :=
  event (State.deliverInTurn judgeFreeze ⟨0x03, small, arg⟩) s

/-- RESUME (R25). -/
def execResume (small : Byte) (arg : Word) (s : State) : Host.Outcome State Fault Refusal :=
  event (State.deliverInTurn judgeResume ⟨0x04, small, arg⟩) s

/-- ADOPT (R97). -/
def execAdopt (small : Byte) (arg : Word) (s : State) : Host.Outcome State Fault Refusal :=
  event (State.deliverInTurn judgeAdopt ⟨0x08, small, arg⟩) s

/-- SHOW (R106). -/
def execShow (small : Byte) (arg : Word) (s : State) : Host.Outcome State Fault Refusal :=
  event (State.deliverInTurn (judgeShow small) ⟨0x10, small, arg⟩) s

/-- STOP (R107). -/
def execStop (small : Byte) (arg : Word) (s : State) : Host.Outcome State Fault Refusal :=
  event (State.deliverInTurn judgeStop ⟨0x11, small, arg⟩) s

/-- ADVANCE (R105). -/
def execAdvance (small : Byte) (arg : Word) (s : State) : Host.Outcome State Fault Refusal :=
  event (State.deliverInTurn judgeAdvance ⟨0x12, small, arg⟩) s

/-- FADE (R126). -/
def execFade (small : Byte) (arg : Word) (s : State) : Host.Outcome State Fault Refusal :=
  event (State.deliverInTurn (judgeFade small arg) ⟨0x20, small, arg⟩) s

/-- CUT (R128). -/
def execCut (small : Byte) (arg : Word) (s : State) : Host.Outcome State Fault Refusal :=
  event (State.deliverInTurn (judgeCut small arg) ⟨0x21, small, arg⟩) s

/-- COUNT_SET (R151). -/
def execCountSet (small : Byte) (arg : Word) (s : State) : Host.Outcome State Fault Refusal :=
  event (State.deliverInTurn (judgeCountSet arg) ⟨0x30, small, arg⟩) s

/-- ACK (R174). -/
def execAck (small : Byte) (arg : Word) (s : State) : Host.Outcome State Fault Refusal :=
  event (State.deliverInTurn (judgeAck arg) ⟨0x40, small, arg⟩) s

/-- UNKNOWN_COMMAND (R166). A code that is in the table names a command of its own row and has no effect here
(log 30). -/
def execUnknownCommand (code small : Byte) (arg : Word) (s : State) : Host.Outcome State Fault Refusal :=
  event (fun u => if knownCode code then u else u.deliverInTurn judgeUnknown ⟨code, small, arg⟩) s

end Sys2Proof.Machine
end

