-- ==== Sys2Proof/Machine/RasterCount.lean ====
section
/-! DEFINITION. The raster counter (chapter 4): the sampling of LHS and LVS (R69), capture (R70, R71), local line starts
(R66 to R68), local field starts (R72, R73), the checks after capture (R74, R75) and raster faults (R76). -/

namespace Sys2Proof.Machine

/-! ### Raster faults (R76) -/

/-- A raster fault, as one step (R76). -/
def State.rasterFault (s : State) : State :=
  (((s.raise .rasterFault).onKeyer fun k => { k with rasterSource := true }).onRaster fun r =>
    { r with phase := .hunt, frameLen := none, renumber := false, lhsMissed := false, lvsMissed := false }).handMismatch

/-! ### The line counter (R67) -/

/-- The value the line counter takes at the next local line start (R67). -/
def Raster.nextLine (r : Raster) : Nat :=
  if r.renumber then 0
  else if r.frameLen = some (r.line + 1) ∨ r.line = 2047 then 0
  else r.line + 1

/-- The line a line-start LVS begins: the line counter as it stands, or for an offset below 0 the value it
would take at the next local line start without the renumber mark (section 4.4). -/
def State.lvsLine (s : State) : Nat :=
  if 0 ≤ s.offset then s.raster.line
  else if s.raster.frameLen = some (s.raster.line + 1) then 0 else s.raster.line + 1

/-- Whether a local line start would take the line counter past 2047 with the raster captured and its frame
length unknown, which is a raster fault (R67, R75). -/
def State.runsPast (s : State) : Bool :=
  s.raster.phase == .captured && s.raster.frameLen == none && !s.raster.renumber && s.raster.line == 2047

/-! ### Carries and local line starts (R63, R64, R66, R68) -/

/-- A dot ends: its sample is the one before, and the new dot has none yet (R69). -/
def Sample.next (x : Sample) : Sample := { before := x.here, here := false }

/-- A carry that does not wrap: the dot counter advances, the LHS window and the LVS of the next line start
open, and the checks that end with the dot are marked as due (R66, R74, R75, log 24). -/
def Raster.carry (r : Raster) : Raster :=
  let d := r.dot + 1
  { r with
    dot := d
    lhs := r.lhs.next
    lvs := r.lvs.next
    huntDot := false
    lhsSeen := if d + 2 = r.lineLen then false else r.lhsSeen
    lvsSeen := if d + 8 = r.lineLen then false else r.lvsSeen
    lhsMissed := r.lhsMissed || (d == 3 && r.phase == .captured && !r.lhsSeen)
    lvsMissed := r.lvsMissed || (d == 9 && r.phase == .captured && r.frameLen.isSome && r.line == 0 && !r.lvsSeen) }

/-- The raster counter's part of a local line start: the stamp, the line counter, dot 0 and the line length
in use (R66 to R68). A line start presented before its line's last dots opens the windows it skipped (log 5). -/
def Raster.lineStart (t : Time) (dots : Nat) (r : Raster) : Raster :=
  { r with
    dot := 0
    line := r.nextLine
    renumber := false
    lastStart := t
    lineLen := dots
    lhs := r.lhs.next
    lvs := r.lvs.next
    huntDot := false
    lhsSeen := if r.dot + 2 < r.lineLen then false else r.lhsSeen
    lvsSeen := if r.dot + 8 < r.lineLen then false else r.lvsSeen }

/-- The cue unit's look at a local line start (R138). -/
def State.localLook (s : State) : State :=
  s.look .localLines s.raster.line s.localParity s.raster.lastStart

/-- Whether a LATCH cue fires at a local line start. -/
def State.latchFires (s : State) : Bool :=
  (s.cue.fired .localLines s.raster.line s.localParity).any fun e => e.1.action == .latch

/-- A local line start is handed to the cue unit, to the seek count and to the frame aligner. They touch
different state and need no order, but for a LATCH cue at the line start that ends a slew: which of the two is
taken first is left open (R66, R155, log 8). At the second line start of a seek computation the cue unit looks before
the computation completes, since SEEK_COMPLETE is a step of its own: a LATCH cue there records SEEK, and R155 leaves
open whether it does (DESIGN CHOICE, log 36). -/
def State.handLineStart (s : State) : State :=
  let u := s.countSeekLine
  if u.slewEnds && u.latchFires then
    if u.tie.1 then u.tie.2.localLook.slewLine else u.tie.2.slewLine.localLook
  else u.localLook.slewLine

/-- A local line start: the wrap of the dot counter, with all that is taken at it (R64, R66). -/
def State.lineStart (s : State) : State :=
  let a := if s.runsPast then s.rasterFault else s
  let b := (a.onKeyer (Keyer.leave a.raster.dot)).onRaster (Raster.lineStart a.timebase a.setupDots)
  let c := b.onSynth fun y => { y with applied := y.handed, carryOwed := false }
  c.handLineStart.onKeyer fun k => Keyer.present 0 { k with span := k.span.atWrap }

/-- A carry of the synthesiser: a wrap where the dot counter stands at the last dot, else one dot on, with KEY
and MIX driven for the new dot (R63, R66, R120). -/
def State.carry (s : State) : State :=
  if s.raster.lineLen ≤ s.raster.dot + 1 then s.lineStart
  else
    (((s.onKeyer (Keyer.leave s.raster.dot)).onRaster Raster.carry).onSynth
      fun y => { y with carryOwed := false }).onKeyer (Keyer.present (s.raster.dot + 1))

/-! ### Line-start LVS (R72, R73) -/

/-- Whether an LVS seen in the present dot is a line-start LVS (R72). -/
def State.isLineStartLvs (s : State) : Bool := decide (s.offset.natAbs ≤ 8)

/-- Whether an LVS seen in the present dot would fail its check in CAPTURED: a line-start LVS that would end a frame of
no lines, or one that comes at another line than 0 of a known frame (R73, R75). -/
def State.lvsFails (s : State) : Bool :=
  s.raster.phase == .captured && s.isLineStartLvs &&
    match s.raster.frameLen with
    | none => s.lvsLine == 0
    | some _ => s.lvsLine != 0

/-! ### LHS (R70, R71, R74, R111) -/

/-- Whether an LHS fails its check in CAPTURED: outside -2..+2, or the second in its window (R74). -/
def State.lhsFails (s : State) : Bool :=
  s.raster.phase == .captured && (decide (2 < s.offset.natAbs) || s.raster.lhsSeen)

/-- Whether an LHS sets the dot counter to 0 in its dot: in HUNT, and in ALIGN outside -2..+2 (R70, R71). -/
def State.lhsSetsDot (s : State) : Bool :=
  s.raster.phase == .hunt || (s.raster.phase == .align && decide (2 < s.offset.natAbs))

/-- The raster counter takes an LHS: it sets or keeps the dot counter, and HUNT becomes ALIGN (R70, R71). The LHS is
kept as seen for the window of the dot 0 it sets, though no local line start comes there: R74 gives windows to local
line starts only, and the model treats that dot 0 as one, so that after a capture within dots 0 to 2 a further LHS in
them is the second of its window (DESIGN CHOICE, log 37). -/
def State.placeLhs (s : State) : State :=
  s.onRaster fun r =>
    { r with dot := if s.lhsSetsDot then 0 else r.dot, lhsSeen := true,
             phase := if r.phase = .hunt then .align else r.phase }

/-- The keyer begins its keying line with the LHS as the raster counter has placed it (R111). -/
def State.keyLhs (s : State) : State :=
  if 0 ≤ s.offset then s.beginKeying s.raster.line true else s.beginKeying s.raster.nextLine false

/-- An LHS that fails its check is a raster fault. An LVS in the same dot that would fail as well is then met in
HUNT (R75, log 34). -/
def State.failLhs (s : State) : State := s.rasterFault.onRaster fun r => { r with huntDot := s.lvsFails }

/-- An LHS is seen: one that fails its check is a raster fault and is next taken in HUNT (R74, R76, log 21). -/
def State.seeLhs (s : State) : State := (if s.lhsFails then s.failLhs else s).placeLhs.keyLhs

/-- LHS is high at the present instant. It is sampled where DOTCLK rises, once in a dot, and is seen where the dot before
had no high sample (R69). -/
def State.sampleLhs (s : State) : State :=
  if s.synth.rises && !s.raster.lhs.here then
    let u := s.onRaster fun r => { r with lhs := { r.lhs with here := true } }
    if s.raster.lhs.before then u else u.seeLhs
  else s

/-- An LHS window closes with no LHS seen in it: in dot 2, or once that dot has ended (R74). -/
def State.closeWindow (s : State) : State :=
  if (s.raster.lhsMissed || s.raster.dot == 2) && s.raster.phase == .captured && !s.raster.lhsSeen then s.rasterFault
  else s.onRaster fun r => { r with lhsMissed := false }

/-! ### LVS (R71 to R73, R75) -/

/-- The line a line-start LVS begins is numbered 0: at once at an offset of 0 or more, else by the renumber
mark (R71, R73). -/
def State.renumberLine (s : State) : State :=
  s.onRaster fun r => if 0 ≤ s.offset then { r with line := 0 } else { r with renumber := true }

/-- A line-start LVS in ALIGN captures the raster (R71). -/
def State.capture (s : State) : State :=
  (s.renumberLine.onRaster fun r => { r with phase := .captured, frameLen := none, lvsSeen := true }).handMismatch

/-- A line-start LVS in CAPTURED measures the first frame, or is checked (R73, R75). -/
def State.checkLvs (s : State) : State :=
  match s.raster.frameLen with
  | none =>
    if s.lvsLine = 0 then s.rasterFault
    else (s.renumberLine.onRaster fun r => { r with frameLen := some s.lvsLine, lvsSeen := true }).handMismatch
  | some _ => if s.lvsLine = 0 then s.onRaster fun r => { r with lvsSeen := true } else s.rasterFault

/-- The raster counter takes an LVS (R70 to R73): the parity, and capture or the check of a line-start LVS. One that is
the second failure of its dot is met in HUNT (R75). -/
def State.takeLvs (s : State) : State :=
  let u := s.onRaster fun r => { r with secondField := !s.isLineStartLvs }
  if s.isLineStartLvs && !s.raster.huntDot then
    match s.raster.phase with
    | .hunt => u
    | .align => u.capture
    | .captured => u.checkLvs
  else u

/-- The title engine takes a local field start: an adoption where one is requested, which the cue unit and the
ramp units join (R98, R130, R136), and then the dwell (R102). -/
def State.adoptIfAsked (s : State) : State :=
  if s.title.adoptRequest then ((s.onTitle Title.adopt).onCue CueUnit.adopt).primeRamps else s

/-- A local field start as the title engine, the keyer and the cue unit take it (R72, R98, R102, R125, R149). -/
def State.fieldTick (s : State) : State :=
  ((s.adoptIfAsked.onTitle Title.countDwell).stepRamps).stepCounter

/-- LVS is high at the present instant. It is sampled where DOTCLK rises, once in a dot, and is seen where the dot before
had no high sample (R69); an LVS seen is a local field start (R72). -/
def State.sampleLvs (s : State) : State :=
  if s.synth.rises && !s.raster.lvs.here then
    let u := s.onRaster fun r => { r with lvs := { r.lvs with here := true } }
    if s.raster.lvs.before then u else u.takeLvs.fieldTick
  else s

/-- Dot 8 of local line 0 ends with no line-start LVS seen for it, the frame length known (R75): in dot 8, or once that
dot has ended. -/
def State.timeoutLvs (s : State) : State :=
  if (s.raster.lvsMissed || s.raster.dot == 8) && s.raster.phase == .captured && s.raster.frameLen.isSome &&
      s.raster.line == 0 && !s.raster.lvsSeen
  then s.rasterFault else s.onRaster fun r => { r with lvsMissed := false }

end Sys2Proof.Machine
end

