-- ==== Sys2Proof/Machine/SignalRows.lean ====
section
/-! DEFINITION. The meanings of the rows that signals and the passing of time bring about. A row that carries `now`
moves the instant on to it first; one that does not is taken at the present instant, before or after the commands
that can be delivered at it (R26, log 15). -/

namespace Sys2Proof.Machine

/-! ### The sync front end -/

/-- ACCEPTED_FALL (R1, R3). -/
def execAcceptedFall (now : Time) (s : State) : Host.Outcome State Fault Refusal :=
  event (fun u => (u.moveOn now).csyncFall) s

/-- ACCEPTED_RISE (R1, R3 to R14). -/
def execAcceptedRise (now : Time) (s : State) : Host.Outcome State Fault Refusal :=
  event (fun u => (u.moveOn now).csyncRise) s

/-- PULSE_SATURATION (R4). -/
def execPulseSaturation (now : Time) (s : State) : Host.Outcome State Fault Refusal :=
  event (fun u => (u.moveOn now).saturate) s

/-- CSYNC_LEVEL_CHANGE (R1). While RESET# is held only the pin changes. -/
def execCsyncLevelChange (now : Time) (level : Level) (s : State) : Host.Outcome State Fault Refusal :=
  eventOr (State.setRawCsync level) (fun u => (u.moveOn now).csyncLevel level) s

/-! ### The line lock loop -/

/-- RECORD_TAKEN (R27). -/
def execRecordTaken (s : State) : Host.Outcome State Fault Refusal :=
  event State.takeHead s

/-- SEEK_COMPLETE (R47). -/
def execSeekComplete (s : State) : Host.Outcome State Fault Refusal :=
  event State.completeSeek s

/-- LINE_CLOSE (R33). -/
def execLineClose (now : Time) (s : State) : Host.Outcome State Fault Refusal :=
  event (fun u => (u.moveOn now).closeIfDue) s

/-- LINE_SETTLE (R34). -/
def execLineSettle (now : Time) (s : State) : Host.Outcome State Fault Refusal :=
  event (fun u => (u.moveOn now).settleIfDue) s

/-- HOLDOVER_EXPIRED (R39): the transition that a line close in COAST owes. -/
def execHoldoverExpired (s : State) : Host.Outcome State Fault Refusal :=
  event State.expireHoldover s

/-! ### The synthesiser and the raster counter -/

/-- SYNTHESISER_CARRY (R63, R66, R120). -/
def execSynthesiserCarry (now : Time) (s : State) : Host.Outcome State Fault Refusal :=
  event (fun u => (u.moveOn now).carry) s

/-- LOCAL_LINE_START (R66). -/
def execLocalLineStart (now : Time) (s : State) : Host.Outcome State Fault Refusal :=
  event (fun u => (u.moveOn now).lineStart) s

/-- LHS_SEEN (R69, R70, R71, R74, R111): LHS is high at the present instant. -/
def execLhsSeen (s : State) : Host.Outcome State Fault Refusal :=
  event State.sampleLhs s

/-- LHS_WINDOW_CLOSE (R74). -/
def execLhsWindowClose (s : State) : Host.Outcome State Fault Refusal :=
  event State.closeWindow s

/-- LINE_ZERO_LVS_TIMEOUT (R75). -/
def execLineZeroLvsTimeout (s : State) : Host.Outcome State Fault Refusal :=
  event State.timeoutLvs s

/-- LOCAL_FIELD_START (R69, R72): LVS is high at the present instant. -/
def execLocalFieldStart (s : State) : Host.Outcome State Fault Refusal :=
  event State.sampleLvs s

/-! ### The title chain and the CUE input -/

/-- DWELL_EXPIRED (R102, R103): the advance that a local field start owes. -/
def execDwellExpired (s : State) : Host.Outcome State Fault Refusal :=
  event State.expireDwell s

/-- CUE_PULSE (R154). -/
def execCuePulse (now : Time) (s : State) : Host.Outcome State Fault Refusal :=
  event (fun u => (u.moveOn now).cueRise) s

/-- CUE_FALL_ACCEPTED (R153). -/
def execCueFallAccepted (now : Time) (s : State) : Host.Outcome State Fault Refusal :=
  event (fun u => (u.moveOn now).cueFall) s

/-- CUE_LEVEL_CHANGE (R153). While RESET# is held only the pin changes. -/
def execCueLevelChange (now : Time) (level : Level) (s : State) : Host.Outcome State Fault Refusal :=
  eventOr (State.setRawCue level) (fun u => (u.moveOn now).cueLevel level) s

end Sys2Proof.Machine
end

