-- ==== Sys2Proof/Machine/Dispatch.lean ====
section
/-! DEFINITION. One arm per row of the command table, each one direct call of its meaning. -/

namespace Sys2Proof.Machine

def exec (i : Instr) (s : State) : Host.Outcome State Fault Refusal :=
  match i with
  | .powerReset base dclk std => Sys2Proof.Machine.execPowerReset base dclk std s
  | .busReset => Sys2Proof.Machine.execBusReset s
  | .acceptedFall now => Sys2Proof.Machine.execAcceptedFall now s
  | .acceptedRise now => Sys2Proof.Machine.execAcceptedRise now s
  | .pulseSaturation now => Sys2Proof.Machine.execPulseSaturation now s
  | .recordTaken => Sys2Proof.Machine.execRecordTaken s
  | .seekComplete => Sys2Proof.Machine.execSeekComplete s
  | .lineClose now => Sys2Proof.Machine.execLineClose now s
  | .holdoverExpired => Sys2Proof.Machine.execHoldoverExpired s
  | .lineSettle now => Sys2Proof.Machine.execLineSettle now s
  | .engage small arg => Sys2Proof.Machine.execEngage small arg s
  | .release small arg => Sys2Proof.Machine.execRelease small arg s
  | .freeze small arg => Sys2Proof.Machine.execFreeze small arg s
  | .resume small arg => Sys2Proof.Machine.execResume small arg s
  | .adopt small arg => Sys2Proof.Machine.execAdopt small arg s
  | .showSet small arg => Sys2Proof.Machine.execShow small arg s
  | .stop small arg => Sys2Proof.Machine.execStop small arg s
  | .advance small arg => Sys2Proof.Machine.execAdvance small arg s
  | .fade small arg => Sys2Proof.Machine.execFade small arg s
  | .cut small arg => Sys2Proof.Machine.execCut small arg s
  | .countSet small arg => Sys2Proof.Machine.execCountSet small arg s
  | .ack small arg => Sys2Proof.Machine.execAck small arg s
  | .unknownCommand code small arg => Sys2Proof.Machine.execUnknownCommand code small arg s
  | .capturedWrite addr data lanes => Sys2Proof.Machine.execCapturedWrite addr data lanes s
  | .structuralSetupWrite addr data lanes => Sys2Proof.Machine.execStructuralSetupWrite addr data lanes s
  | .fieldCounterModeWrite addr data lanes => Sys2Proof.Machine.execFieldCounterModeWrite addr data lanes s
  | .enableMaskWrite addr data lanes => Sys2Proof.Machine.execEnableMaskWrite addr data lanes s
  | .reportSummaryRead addr dram => Sys2Proof.Machine.execReportSummaryRead addr dram s
  | .displayFetch addr word => Sys2Proof.Machine.execDisplayFetch addr word s
  | .lhsSeen => Sys2Proof.Machine.execLhsSeen s
  | .lhsWindowClose => Sys2Proof.Machine.execLhsWindowClose s
  | .lineZeroLvsTimeout => Sys2Proof.Machine.execLineZeroLvsTimeout s
  | .localFieldStart => Sys2Proof.Machine.execLocalFieldStart s
  | .dwellExpired => Sys2Proof.Machine.execDwellExpired s
  | .localLineStart now => Sys2Proof.Machine.execLocalLineStart now s
  | .cuePulse now => Sys2Proof.Machine.execCuePulse now s
  | .cueFallAccepted now => Sys2Proof.Machine.execCueFallAccepted now s
  | .busResetRelease => Sys2Proof.Machine.execBusResetRelease s
  | .powerResetEnd => Sys2Proof.Machine.execPowerResetEnd s
  | .synthesiserCarry now => Sys2Proof.Machine.execSynthesiserCarry now s
  | .csyncLevelChange now level => Sys2Proof.Machine.execCsyncLevelChange now level s
  | .cueLevelChange now level => Sys2Proof.Machine.execCueLevelChange now level s

end Sys2Proof.Machine
end

