-- ==== Sys2Proof/Decode.lean ====
section
/-! DEFINITION. The decoding of a word to a command: no row of spec/opcode_table.json gives bits, so no word spells
one. Beside it, the command row a queued command's code names (section 9.5). -/

namespace Sys2Proof

/-- The command that a word spells by the table's bits. No row of the table has any ("fields" is empty in every
row), so there is none. -/
def decodeTableWord (_nbits _w : Nat) : Option Instr := none

namespace Machine

/-- The step that delivers a queued command: its code names the row (section 9.5, R166). -/
def Command.row (c : Command) : Instr :=
  match c.code.toNat with
  | 0x01 => .engage c.small c.arg
  | 0x02 => .release c.small c.arg
  | 0x03 => .freeze c.small c.arg
  | 0x04 => .resume c.small c.arg
  | 0x08 => .adopt c.small c.arg
  | 0x10 => .showSet c.small c.arg
  | 0x11 => .stop c.small c.arg
  | 0x12 => .advance c.small c.arg
  | 0x20 => .fade c.small c.arg
  | 0x21 => .cut c.small c.arg
  | 0x30 => .countSet c.small c.arg
  | 0x40 => .ack c.small c.arg
  | _ => .unknownCommand c.code c.small c.arg

end Machine

end Sys2Proof
end

