-- ==== Sys2Proof/Machine/Idle.lean ====
section
/-! DEFINITION. What the block does with no command waiting: it puts a step that is due into the queue, and where
none is due it passes one tick of the reference (log 2). -/

namespace Sys2Proof.Machine

/-- One step where a condition holds. -/
def stepWhen (b : Bool) (i : Instr) : List Instr := if b then [i] else []

/-- The filter step due on CSYNC: an accepted fall or rise (R1). -/
def State.csyncDue (s : State) : List Instr :=
  match s.front.filter.accepted with
  | .high => stepWhen (s.front.filter.ripe s.fFall s.timebase).isSome (.acceptedFall s.timebase)
  | .low => stepWhen (s.front.filter.ripe s.fRise s.timebase).isSome (.acceptedRise s.timebase)

/-- The filter step due on CUE: a CUE pulse or an accepted fall (R153). -/
def State.cueDue (s : State) : List Instr :=
  match s.cue.filter.accepted with
  | .low => stepWhen (s.cue.filter.ripe s.cueWidth s.timebase).isSome (.cuePulse s.timebase)
  | .high => stepWhen (s.cue.filter.ripe s.cueWidth s.timebase).isSome (.cueFallAccepted s.timebase)

/-- The pulse in progress has reached 65,535 ticks (R4). -/
def State.saturationDue (s : State) : Bool :=
  s.front.pulse.any fun lead => decide (65535 ≤ sdiff s.timebase lead)

/-- The carry of the present tick: a local line start at the last dot, else a dot's end (R63, R66). -/
def State.carryDue (s : State) : List Instr :=
  stepWhen s.synth.carryOwed
    (if s.raster.lineLen ≤ s.raster.dot + 1 then .localLineStart s.timebase else .synthesiserCarry s.timebase)

/-- The command at the head of the queue, unless it must wait (R166, R167). -/
def State.commandDue (s : State) : List Instr :=
  match s.bus.queue with
  | c :: _ => stepWhen (s.listening && !s.mustWait c) c.row
  | [] => []

/-- The steps that the present instant makes due. A step that the step before brought about comes alone, before
every other (log 6). -/
def State.due (s : State) : List Instr :=
  if s.title.dwellOwed then [.dwellExpired]
  else if s.loop.holdoverOwed then [.holdoverExpired]
  else
    s.carryDue ++ stepWhen s.raster.lhsMissed .lhsWindowClose ++ stepWhen s.raster.lvsMissed .lineZeroLvsTimeout ++
      stepWhen s.seekDue .seekComplete ++ s.csyncDue ++ stepWhen s.saturationDue (.pulseSaturation s.timebase) ++
      s.cueDue ++ stepWhen (!s.front.queue.isEmpty && !s.loop.seek.inFlight) .recordTaken ++
      stepWhen s.closeDue.isSome (.lineClose s.timebase) ++ stepWhen s.settleDue.isSome (.lineSettle s.timebase) ++
      s.commandDue

/-- One tick of the reference: the accumulator adds the applied increment, and a sum of 2^24 or more is a
carry (R63). -/
def State.tick (s : State) : State :=
  ((s.advanceTo (later s.timebase 1)).onSynth fun y =>
    { y with carryOwed := decide (2 ^ 24 ≤ s.synth.acc.toNat + s.synth.applied) }).drive

/-- One of several steps that are due at the same instant goes to the queue: which one is left open (log 3). -/
def State.queueOne (first : Instr) (others : List Instr) (s : State) : State :=
  match others with
  | [] => s.setPending [first]
  | _ =>
    (s.setPending [((first :: others)[Config.choice s.choices % (others.length + 1)]?).getD first]).setChoices
      (s.choices + 1)

/-- The block with an empty queue. While RESET# is held nothing happens (log 10). -/
def State.idle (s : State) : State :=
  if s.resetHeld then s
  else
    match s.due with
    | [] => s.tick
    | i :: rest => s.queueOne i rest

end Sys2Proof.Machine
end

