-- ==== Sys2Proof/Safety.lean ====
section
/-! DEFINITION. The terms claims are made in: when a row is taken with nothing else in the way, what a delivered
command and an entered state leave, and the invariants a safe run keeps. -/

namespace Sys2Proof

/-- Whether taking a row lets the commands that can be delivered go first: a row of a later instant, and a bus cycle
(R166, log 15). -/
def Instr.servesFirst (now : Time) : Instr → Bool
  | .acceptedFall t | .acceptedRise t | .pulseSaturation t | .lineClose t | .lineSettle t
  | .localLineStart t | .cuePulse t | .cueFallAccepted t | .synthesiserCarry t
  | .csyncLevelChange t _ | .cueLevelChange t _ => t != now
  | .capturedWrite .. | .structuralSetupWrite .. | .fieldCounterModeWrite .. | .enableMaskWrite ..
  | .reportSummaryRead .. | .displayFetch .. => true
  | .powerReset .. | .powerResetEnd | .busReset | .busResetRelease | .recordTaken | .seekComplete | .holdoverExpired
  | .lhsSeen | .localFieldStart | .lhsWindowClose | .lineZeroLvsTimeout | .dwellExpired | .engage .. | .release .. | .freeze ..
  | .resume ..
  | .adopt .. | .showSet .. | .stop .. | .advance .. | .fade .. | .cut .. | .countSet .. | .ack ..
  | .unknownCommand .. => false

end Sys2Proof

namespace Sys2Proof.Machine

/-! ### When a row is taken -/

/-- RESET# is not held, and no step that the step before brought about is still to be taken (log 6). -/
abbrev State.Unowed (s : State) : Prop :=
  s.resetHeld = false ∧ s.title.dwellOwed = false ∧ s.loop.holdoverOwed = false

/-- Nothing comes before the row presented: nothing is owed, and no queued command can be delivered, which is how the
part stands but for the instant of a delivery (R166). -/
abbrev State.Ready (s : State) : Prop := s.Unowed ∧ s.headWaits = true

/-- A command stands at the head of the command queue, to be delivered next (R166). -/
abbrev State.Heads (s : State) (c : Command) (rest : List Command) : Prop :=
  s.Unowed ∧ s.bresetHeld = false ∧ s.bus.queue = c :: rest

/-- The instant moves on to `now`: the timebase, and the accumulator by the applied increment for each tick,
modulo 2^24 (R63). -/
def State.at (now : Time) (s : State) : State :=
  { s with
    timebase := now
    synth := { s.synth with acc := s.synth.acc + BitVec.ofNat 24 ((now - s.timebase).toNat * s.synth.applied) } }

/-- Marks are set in the pending set. -/
def State.withCauses (m : Word) (s : State) : State := { s with att := { s.att with causes := s.att.causes ||| m } }

/-- A command has left the queue and its verdict is the last-command result; one other than ACCEPTED sets
COMMAND REFUSED, bit 10 (R166, R168). -/
def State.afterCommand (code : Byte) (rest : List Command) (v : Verdict) (s : State) : State :=
  { s with
    bus := { s.bus with queue := rest, lastCode := code, lastVerdict := some v }
    att := { s.att with causes := if v = .accepted then s.att.causes else s.att.causes ||| 0x0400 } }

/-- The loop has entered OFF or SEEK from any state: the prediction, the open lines, the six counts, the
candidate list and the seek state are cleared, I is F, and the sync front end's line counter and accumulating
record are cleared (R21, R15, R18). -/
def State.entered (st : LoopState) (s : State) : State :=
  { s with
    loop := { s.loop with
      state := st, inc := clamp s.iMin s.iMax s.loop.freq, valid := false, lines := [], lockCount := 0,
      unlockCount := 0, missedRun := 0, returnCount := 0, holdCount := 0, edgeless := 0, candidates := [],
      seek := { prev := none, acc := 0, count := 0, inFlight := false, lineStarts := 0, dots := 0 },
      holdoverOwed := false }
    synth := { s.synth with handed := clamp s.iMin s.iMax s.loop.freq }
    front := { s.front with
      lineValid := false, line := 0, lineTime := none, parity := .unknown,
      accum := { accepted := 0, missed := 0, excused := 0, candidates := 0, maxError := 0, shortest := 0,
                 longest := 0, lines := 0, parity := .unknown } } }

/-- A completed record joins the tail of the pulse queue, or finds it full and is discarded with PULSE OVERRUN,
bit 5 (R7). -/
def State.queued (p : Pulse) (s : State) : State :=
  { s with
    front := { s.front with queue := if s.front.queue.length < 4 then s.front.queue ++ [p] else s.front.queue }
    att := { s.att with
      causes := if s.front.queue.length < 4 then s.att.causes else s.att.causes ||| 0x0020 } }

/-- The open lines after an edge at `t` on line `n` has become the base: the lines before it keep their predictions,
its own line has its edge taken and is predicted at `t`, and a line k after it at `t` + round(k Pb16 / 16)
(R28, R30, R31). -/
def edgeLines (t : Time) (n pb16 : Nat) (lines : List OpenLine) : List OpenLine :=
  lines.map fun o =>
    if o.line < n then o
    else { o with pred := later t (roundDiv ((o.line - n) * pb16) 16), edge := o.edge || o.line == n }

/-- The state in which an accepted edge has been reported, its interval taken, the prediction rebased and its line's
start event issued, `u` being the state its record has left the queue of (R31, parts 1 to 4). -/
def State.edgeTaken (t : Time) (o : OpenLine) (u : State) : State :=
  let i := (t - u.loop.refTime).toInt
  let one : Prop := u.loop.refLine + 1 = o.line
  let pb16 := if one then clampInt (16 * u.pLo) (16 * u.pHi) (u.loop.pb16 + i - roundDiv u.loop.pb16 16)
              else u.loop.pb16
  let v := min 65535 i.toNat
  let m := u.front.accum
  let w : State := { u with
    front := { u.front with accum := { m with
      accepted := min 65535 (m.accepted + 1)
      shortest := if ¬ one then m.shortest else if m.shortest = 0 ∧ m.longest = 0 then v else min m.shortest v
      longest := if ¬ one then m.longest else if m.shortest = 0 ∧ m.longest = 0 then v else max m.longest v } }
    loop := { u.loop with
      base := t, baseLine := o.line, refTime := t, refLine := o.line, pb16 := pb16, edgeless := 0
      missedRun := if u.loop.state = .coast then u.loop.missedRun else 0
      lines := edgeLines t o.line pb16 u.loop.lines } }
  if o.closed then w else w.closeLine t

/-- A raster fault has been taken (R76): RASTER FAULT, bit 13, is raised, the keyer's raster source is set, capture
begins again in HUNT with the frame length unknown and the renumber mark clear, and FRAME MISMATCH does not hold. -/
def State.faulted (s : State) : State :=
  { s with
    raster := { s.raster with
      phase := .hunt, frameLen := none, renumber := false, lhsMissed := false, lvsMissed := false }
    keyer := { s.keyer with rasterSource := true }
    att := { s.att with causes := s.att.causes ||| 0x2000, mismatch := false } }

/-- The key and MIX code of the computer shown at a level: the programme at level 0 (R117). -/
def keyOf (level : Nat) : KeyCell := { key := decide (level ≠ 0), mix := BitVec.ofNat 4 (level / 16) }

/-- The cell the delay line presents in a dot: that of the record that holds the column whose presentation dot it
is, and the programme where no record holds it (R120). -/
def shownAt (dot colZero : Nat) (delay : List KeyRecord) : KeyCell :=
  (delay.findSome? fun r =>
    if r.first + colZero ≤ (dot : Int) ∧ (dot : Int) ≤ r.first + colZero + 3 then
      (r.cells[((dot : Int) - colZero - r.first).toNat]?).join else none).getD { key := false, mix := 0 }

/-! ### Invariants -/

/-- The bounds of the four queues and of the live cue table (R7, R165, R119, R42, R136). Between steps the
candidate list is below 15, since the fifteenth entry rephases (R42, R44). -/
abbrev State.QueuesBounded (s : State) : Prop :=
  s.front.queue.length ≤ 4 ∧ s.bus.queue.length ≤ 8 ∧ s.keyer.delay.length ≤ 24 ∧
    s.loop.candidates.length ≤ 14 ∧ s.cue.count ≤ 40

/-- Open lines stand in order: each is numbered one more than the line before it, the last is the one next to close,
and every line before it is closed (R28, R33). -/
def openInOrder : List OpenLine → Bool
  | [] => false
  | [o] => !o.closed
  | o :: b :: rest => o.closed && b.line == o.line + 1 && openInOrder (b :: rest)

/-- The broadcast line counter is 1..N while valid and 0 while not, the prediction is valid in every loop state
but OFF and SEEK, and the counter is never valid in those (R15, R21); the open lines of a valid prediction stand in
order, and without one there are none (R21, R28, R33); and a seek computation is in flight in SEEK only (R26, R46). -/
abbrev State.LinesNumbered (s : State) : Prop :=
  (s.loop.valid = true ↔ s.loop.state ≠ .off ∧ s.loop.state ≠ .seek) ∧
    (s.loop.valid = true → openInOrder s.loop.lines = true) ∧ (s.loop.valid = false → s.loop.lines = []) ∧
    (s.front.lineValid = true → s.loop.valid = true ∧ 1 ≤ s.front.line ∧ s.front.line ≤ s.frameLines) ∧
    (s.front.lineValid = false → s.front.line = 0) ∧ (s.loop.seek.inFlight = true → s.loop.state = .seek)

/-- F and I lie within I_min..I_max, and the pending and the applied increment within 1,048,576..8,388,607
(R21, R59, R63). -/
abbrev State.RatesInRange (s : State) : Prop :=
  (s.iMin ≤ s.loop.freq ∧ s.loop.freq ≤ s.iMax) ∧ (s.iMin ≤ s.loop.inc ∧ s.loop.inc ≤ s.iMax) ∧
    (1048576 ≤ s.synth.handed ∧ s.synth.handed ≤ 8388607) ∧
    (1048576 ≤ s.synth.applied ∧ s.synth.applied ≤ 8388607)

/-- The field counter is below the modulus in RING mode and at most 65,535 in LINEAR mode, and the saturated
flag is set exactly in LINEAR mode at 65,535 (R149). -/
abbrev State.CounterInRange (s : State) : Prop :=
  s.cue.counter ≤ 65535 ∧ (s.ringMode = true → s.cue.counter < s.modulus) ∧
    (s.cue.saturated = true ↔ s.ringMode = false ∧ s.cue.counter = 65535)

/-- The slew record: the level is within 0..M, D is at least the run-down distance a × m × (m - 1) / 2, and each
part is in its range (section 5.1, R83, R86). -/
abbrev State.SlewCanStop (s : State) : Prop :=
  s.align.level ≤ s.align.top ∧ s.align.stepA * s.align.level * (s.align.level - 1) / 2 ≤ s.align.distance ∧
    s.align.count ≤ 1 ∧ s.align.distance ≤ 1277952 ∧ (1 ≤ s.align.stepA ∧ s.align.stepA ≤ 64) ∧
    (1 ≤ s.align.top ∧ s.align.top ≤ 256)

/-- A ramp unit in its ranges; an unstarted unit is IDLE (section 7.1, R125, R130). -/
abbrev Ramp.InRange (r : Ramp) : Prop :=
  r.level ≤ 255 ∧ r.target ≤ 255 ∧ (1 ≤ r.rate ∧ r.rate ≤ 255) ∧ (r.unstarted = true → r.moving = false)

/-- Every ramp unit and every live ramp record is in its ranges (section 7.1, R95, R125). -/
abbrev State.RampsInRange (s : State) : Prop :=
  (∀ i : Fin 4, s.keyer.ramps[i].InRange) ∧
    (∀ i : Fin 4, (1 ≤ s.title.ramps[i].rate ∧ s.title.ramps[i].rate ≤ 255) ∧ s.title.ramps[i].level ≤ 255)

/-- The raster counter: the dot is within the line, the line counter within 0..2047, and a frame length, 1..2048,
is known only while the raster is captured (section 4.2, R66, R67, R76, R179). -/
abbrev State.RasterInRange (s : State) : Prop :=
  s.raster.dot < s.raster.lineLen ∧ (64 ≤ s.raster.lineLen ∧ s.raster.lineLen ≤ 2047) ∧ s.raster.line ≤ 2047 ∧
    (∀ n, s.raster.frameLen = some n → 1 ≤ n ∧ n ≤ 2048 ∧ s.raster.phase = .captured)

/-- With no set active the remaining dwell is 0, it never passes 65,535, and every live set has a dwell of
1..65,535 (R93, R101). -/
abbrev State.ChainInRange (s : State) : Prop :=
  (s.title.active = none → s.title.remaining = 0) ∧ s.title.remaining ≤ 65535 ∧
    ∀ i : Fin 4, 1 ≤ s.title.sets[i].dwell ∧ s.title.sets[i].dwell ≤ 65535

/-- The pins show what the state says: ATTN# is low exactly when some cause is both pending and enabled (R175),
KEY and MIX are 0 while any key restriction source is in force, and else the cell of the dot in progress (R120,
R121; within a dot at once, log 23), and DOTCLK is high exactly while the accumulator holds 2^23 or more (R63,
log 31). -/
abbrev State.PinsTrue (s : State) : Prop :=
  (s.pins.attnLow = true ↔ ∃ n, n < 16 ∧ bit s.att.causes n = true ∧ bit s.att.enable n = true) ∧
    ((s.keyer.rasterSource = true ∨ s.keyer.cueHold = true ∨
        bit (wordAt s.setup.loop 30) s.loop.state.code = false) → s.pins.key = false ∧ s.pins.mix = 0) ∧
    ((s.keyer.rasterSource = false ∧ s.keyer.cueHold = false ∧
        bit (wordAt s.setup.loop 30) s.loop.state.code = true) →
      s.pins.key = s.keyer.shown.key ∧ s.pins.mix = s.keyer.shown.mix) ∧
    (s.pins.dotclk = true ↔ 8388608 ≤ s.synth.acc.toNat)

end Sys2Proof.Machine
end

