-- ==== Sys2Proof/Certificates/Slice0/Obligations.lean ====
section
/-! DEFINITION. The statements for the provers, listed in OBLIGATIONS.json. Times of a step are the operand `now`;
`State.at now` moves the instant on (R63), and `drive` sets the pins from the rest of the state (PinsShowTheState). -/

section

open Sys2Proof Sys2Proof.Machine

/-! ### The step and its frame -/

/-- A step with commands waiting is the meaning of the command at the front, on the state with the queue's rest. -/
def Obligations.StepRunsFrontCommand : Prop :=
  ∀ (c : Instr) (rest : List Instr) (s : State),
    step { s with pending := c :: rest } = exec c { s with pending := rest }

/-- The block with no command waiting (the model's choice, log 2): held in reset it stands still; where steps are
due, one of them goes to the queue, whichever the free choice takes; else one tick of the reference passes, in which
the accumulator adds the applied increment and a sum of 2^24 or more is a carry (R63). -/
def Obligations.EmptyQueueTicks : Prop :=
  ∀ s : State, s.pending = [] →
    (s.resetHeld = true → step s = .next s) ∧
    (s.resetHeld = false → s.due ≠ [] → ∃ i ∈ s.due, ∃ n, step s = .next { s with pending := [i], choices := n }) ∧
    (s.resetHeld = false → s.due = [] →
      step s = .next ({ s with
        timebase := s.timebase + 1
        synth := { s.synth with
          acc := s.synth.acc + BitVec.ofNat 24 s.synth.applied
          carryOwed := decide (2 ^ 24 ≤ s.synth.acc.toNat + s.synth.applied) } } : State).drive)

/-- While RESET# is held no row but POWER_RESET and POWER_RESET_END does more than show the new levels of the input
pins and pass the bus cycle through unchanged, a display fetch of either direction included (R159; log 10). -/
def Obligations.ResetHeldStopsTheBlock : Prop :=
  ∀ (c : Instr) (s : State), s.resetHeld = true → (∀ b d st, c ≠ .powerReset b d st) → c ≠ .powerResetEnd →
    exec c s = .next { s with
      rawCsync := match c with
        | .csyncLevelChange _ l => l
        | _ => s.rawCsync
      rawCue := match c with
        | .cueLevelChange _ l => l
        | _ => s.rawCue
      bresetHeld := match c with
        | .busReset => true
        | .busResetRelease => false
        | _ => s.bresetHeld
      bus := match c with
        | .capturedWrite a w l => { s.bus with toDram := some (.write a w l) }
        | .structuralSetupWrite a w l => { s.bus with toDram := some (.write a w l) }
        | .fieldCounterModeWrite a w l => { s.bus with toDram := some (.write a w l) }
        | .enableMaskWrite a w l => { s.bus with toDram := some (.write a w l) }
        | .reportSummaryRead a w => { s.bus with toDram := some (.read a w.lanes), readData := w.word }
        | .displayFetch a w =>
          if w.write then { s.bus with toDram := some (.fetchWrite a w.word w.lanes) }
          else { s.bus with toDram := some (.fetch a w.lanes), readData := w.word }
        | _ => s.bus }

/-! ### Resets -/

/-- Power reset of the loop: OFF, F and I at the default increment of the DCLK strap, Pb16 by the STD strap, all
else cleared, and every loop setup word of section 2.8 at its default (R51). -/
def Obligations.PowerResetLoop : Prop :=
  ∀ (base : BitVec 4) (dclk : BitVec 2) (std : Standard) (s : State),
    ∃ t, exec (.powerReset base dclk std) s = .next t ∧
      t.loop.state = .off ∧
      t.loop.freq = [2174824, 4349649, 4448504, 4971027][dclk.toNat]?.getD 0 ∧ t.loop.inc = t.loop.freq ∧
      t.loop.pb16 = (if std = .lines525 then 54912 else 55296) ∧
      t.loop.valid = false ∧ t.loop.base = 0 ∧ t.loop.lines = [] ∧ t.loop.refTime = 0 ∧ t.loop.refLine = 0 ∧
      (t.loop.lockCount, t.loop.unlockCount, t.loop.missedRun, t.loop.returnCount, t.loop.holdCount,
        t.loop.edgeless) = (0, 0, 0, 0, 0, 0) ∧
      t.loop.candidates = [] ∧ t.loop.lastE = 0 ∧
      (t.loop.seek.prev, t.loop.seek.acc, t.loop.seek.count, t.loop.seek.inFlight, t.loop.seek.lineStarts) =
        (none, 0, 0, false, 0) ∧
      t.frameLines = (if std = .lines525 then 525 else 625) ∧
      t.setupDots = [448, 896, 910, 1024][dclk.toNat]?.getD 0 ∧
      t.iMin = [2038898, 4077796, 4170473, 4660338][dclk.toNat]?.getD 0 ∧
      t.iMax = [2310750, 4621502, 4726535, 5281716][dclk.toNat]?.getD 0 ∧
      (t.pLo, t.pHi, t.fFall, t.fRise, t.wEq, t.wBroad) = (3200, 3700, 8, 8, 190, 810) ∧
      (t.gN, t.gW, t.gpPull, t.giPull, t.gpLock, t.giLock) = (24, 400, 600, 24, 300, 6) ∧
      (t.tLock, t.nLock, t.tUnlock, t.nUnlock) = (8, 32, 40, 8) ∧
      (t.mCoast, t.rReturn, t.hHold, t.jRephase, t.hOff) = (3, 4, 1250, 3, 0) ∧
      (t.vOff, t.slewStep, t.slewLimit, wordAt t.setup.loop 30) = (0, 8, 96, 0x007F) ∧
      t.pb = (if std = .lines525 then 3432 else 3456)

/-- Power reset of the sync front end, and a CSYNC already low when reset ends: its run starts on the first tick, and
it is accepted as a fall 8 ticks later, stamped with the first tick (R19; log 11). That the filter keeps no width for a tick
is the model's inference (log 38). -/
def Obligations.PowerResetFrontEnd : Prop :=
  ∀ (base : BitVec 4) (dclk : BitVec 2) (std : Standard) (s : State),
    ∃ t u v, exec (.powerReset base dclk std) s = .next t ∧ exec .powerResetEnd t = .next u ∧
      exec (.acceptedFall 8) u = .next v ∧
      t.front =
        { filter := { accepted := .high, run := none }, pulse := none, waitRise := false, queue := [], runCount := 0,
          lineValid := false, line := 0, lineTime := none, parity := .unknown,
          accum := { accepted := 0, missed := 0, excused := 0, candidates := 0, maxError := 0, shortest := 0,
                     longest := 0, lines := 0, parity := .unknown },
          last := { accepted := 0, missed := 0, excused := 0, candidates := 0, maxError := 0, shortest := 0,
                    longest := 0, lines := 0, parity := .unknown } } ∧
      (t.fFall, t.fRise, t.wEq, t.wBroad, t.frameLines) =
        (8, 8, 190, 810, if std = .lines525 then 525 else 625) ∧
      u.front.filter.run = (if s.rawCsync = .low then some 0 else none) ∧
      v.front.pulse = (if s.rawCsync = .low then some 0 else none)

/-- Power reset of the other blocks (R65, R78, R91, R109, R133, R156, R158, R169, R176): each field at its value, the
input pins as they stand. That DOTCLK is low is log 31, that no carry is due and that no instant of a RELEASE is kept are the
model's own marks (logs 2, 41), and that no cycle to DRAM and the word 0 are shown on the two buses are the reset values the
model chose (log 13). -/
def Obligations.PowerResetOtherBlocks : Prop :=
  ∀ (base : BitVec 4) (dclk : BitVec 2) (std : Standard) (s : State),
    ∃ t, exec (.powerReset base dclk std) s = .next t ∧
      t.resetHeld = true ∧ t.timebase = 0 ∧ t.rawCsync = s.rawCsync ∧ t.rawCue = s.rawCue ∧
      t.bresetHeld = s.bresetHeld ∧ t.pending = s.pending ∧
      t.synth = { acc := 0, applied := t.loop.freq, handed := t.loop.freq, carryOwed := false } ∧
      (t.raster.dot, t.raster.line, t.raster.secondField, t.raster.frameLen, t.raster.phase, t.raster.renumber,
        t.raster.lastStart, t.raster.lineLen) = (0, 0, false, none, .hunt, false, 0, t.setupDots) ∧
      t.align = { count := 0, forward := true, distance := 0, stepA := 8, top := 12, level := 0, abandon := false } ∧
      (t.vOff, t.slewStep, t.slewLimit) = (0, 8, 96) ∧
      t.title.adopt.sets = t.title.sets ∧ t.title.adopt.ramps = t.title.ramps ∧
      (∀ i : Fin 4, t.title.sets[i].next = none ∧ t.title.sets[i].mode = .hold ∧ t.title.sets[i].dwell = 1 ∧
        t.title.ramps[i] = { rate := 1, level := 0 } ∧
        ∀ w : Fin 6, t.title.sets[i].windows[w] =
          { enabled := false, mode := .opaqueMode, keyIndex := 0, top := 0, bottom := 0, left := 0, right := 0,
            source := .fixed, level := 0 }) ∧
      (t.title.adoptRequest, t.title.active, t.title.remaining) = (false, none, 0) ∧
      (t.keyer.fetchCount, t.keyer.keyLine, t.keyer.origin, t.keyer.colZero, t.keyer.delay, t.keyer.rasterSource,
        t.keyer.cueHold) = (0, 0, 0, 0, [], false, false) ∧
      (∀ i : Fin 4, t.keyer.ramps[i] = { level := 0, target := 0, rate := 1, moving := false, unstarted := true }) ∧
      (t.setupOrigin, t.setupColZero, t.backComputer, wordAt t.setup.loop 30) = (0, 0, false, 0x007F) ∧
      t.cue.adopt.entries = t.cue.entries ∧ t.cue.adopt.count = 0 ∧ t.cue.count = 0 ∧
      (∀ i : Fin 40, t.cue.entries[i] =
        { enabled := false, domain := .localLines, line := 0, parity := .any, target := none, action := .attend,
          arg := 0 }) ∧
      (t.cue.counter, t.cue.saturated, t.cue.lastCue) = (0, false, none) ∧
      t.cue.latch = { origin := .pulse, time := 0, line := 0, lineValid := false, localLine := 0, loopState := .off,
                      lastE := 0, seqCount := 0 } ∧
      (t.cueWidth, t.useReset, t.useAdvance, t.useLatch, t.ringMode, t.modulus) =
        (16, false, false, false, false, 50000) ∧
      t.bus.base.toNat = base.toNat * 16384 ∧
      (t.bus.arg, t.bus.cmd, t.bus.queue, t.bus.lastCode, t.bus.lastVerdict) = (0, 0, [], 0, none) ∧
      (∀ i : Fin 31, t.bus.snapshot[i] = 0) ∧ t.bus.toDram = none ∧ t.bus.readData = 0 ∧
      t.att = { causes := 0, enable := 0, mismatch := false } ∧
      t.pins = { attnLow := false, key := false, mix := 0, dotclk := false }

/-- The end of RESET#: the CUE filter takes the raw CUE level as accepted, with no run (R156), a CSYNC already low
begins a run (R19, log 11), and the rest stays; that a width kept for a tick stays with its run is the model's inference
(log 38). Without RESET# held the row does nothing. -/
def Obligations.PowerResetEnds : Prop :=
  ∀ s : State,
    (s.resetHeld = true →
      exec .powerResetEnd s = .next ({ s with
        resetHeld := false
        cue := { s.cue with filter := { accepted := s.rawCue, run := none } }
        front := { s.front with filter := { s.front.filter with
          run := if s.rawCsync = s.front.filter.accepted then none
                 else some (s.front.filter.run.getD s.timebase)
          hold := if s.rawCsync = s.front.filter.accepted ∨ s.front.filter.run = none then none
                  else s.front.filter.hold } } } : State).drive) ∧
    (s.resetHeld = false → exec .powerResetEnd s = .next s)

/-- Assertion of BRESET#: the command queue is emptied, every command in it lost unjudged, a RELEASE during a slew included,
ARG, CMD and the last-command result are cleared, the title engine, the ramp
units, the two key sources and the cue unit but its CUE filter take their power-reset values, the pending set is
cleared but for FRAME MISMATCH while its condition holds, and the enable mask is 0; the sync front end, the loop, the
frame aligner, the synthesiser, the raster counter, the setup words, the key delay line and the snapshot stay.
Release of BRESET# changes nothing more (R20, R52, R65, R79, R92, R110, R134, R157, R170, R171, R176). -/
def Obligations.BusResetKeepsTheLock : Prop :=
  ∀ (s : State) (base : BitVec 4) (dclk : BitVec 2) (std : Standard), s.Unowed →
    ∃ p, exec (.powerReset base dclk std) s = .next p ∧
      exec .busReset s = .next ({ s with
        bresetHeld := true
        bus := { s.bus with queue := [], arg := 0, cmd := 0, lastCode := 0, lastVerdict := none }
        title := p.title
        keyer := { s.keyer with ramps := p.keyer.ramps, rasterSource := false, cueHold := false }
        cue := { p.cue with filter := s.cue.filter }
        att := { s.att with causes := if s.att.mismatch then 0x4000 else 0, enable := 0 } } : State).drive ∧
      exec .busResetRelease s = .next ({ s with bresetHeld := false } : State).drive


/-! ### The sync front end -/

/-- A level change on CSYNC or CUE: the raw level is taken, a run ends where it agrees with the accepted level, and
one begins, stamped with the present timebase value, where it differs and none is in progress (R1, R153). That a width
kept for one tick stays with its run is the model's inference (log 38). -/
def Obligations.LevelChanges : Prop :=
  ∀ (now : Time) (l : Level) (s : State), s.Ready →
    exec (.csyncLevelChange now l) s = .next ({ s.at now with
      rawCsync := l
      front := { s.front with filter := { s.front.filter with
        run := if l = s.front.filter.accepted then none else some (s.front.filter.run.getD now)
        hold := if l = s.front.filter.accepted ∨ s.front.filter.run = none then none else s.front.filter.hold } }
      } : State).drive ∧
    exec (.cueLevelChange now l) s = .next ({ s.at now with
      rawCue := l
      cue := { s.cue with filter := { s.cue.filter with
        run := if l = s.cue.filter.accepted then none else some (s.cue.filter.run.getD now)
        hold := if l = s.cue.filter.accepted ∨ s.cue.filter.run = none then none else s.cue.filter.hold } }
      } : State).drive

/-- ACCEPTED_FALL: with the accepted level HIGH and a run of F_fall ticks or more, the accepted level falls and a pulse
starts where none is in progress, its leading edge the run's start (R1, R3). On the tick at which a new width was taken
during the run, the width before it still judges the run: R2 says only that the new one judges it from the next tick on, and
this is the model's inference (log 38). Otherwise only the instant moves on. -/
def Obligations.AcceptedFall : Prop :=
  ∀ (now : Time) (s : State), s.Ready →
    let width : Nat := match s.front.filter.hold with
      | some (t, w) => if t = now then w else s.fFall
      | none => s.fFall
    (∀ t0, s.front.filter.accepted = .high → s.front.filter.run = some t0 → (width : Int) ≤ (now - t0).toInt →
      exec (.acceptedFall now) s = .next ({ s.at now with
        front := { s.front with filter := { accepted := .low, run := none }, pulse := some (s.front.pulse.getD t0) }
        } : State).drive) ∧
    ((s.front.filter.accepted = .low ∨ s.front.filter.run = none ∨
        ∃ t0, s.front.filter.run = some t0 ∧ (now - t0).toInt < width) →
      exec (.acceptedFall now) s = .next (s.at now).drive)

/-- ACCEPTED_RISE: with the accepted level LOW and a run of F_rise ticks or more, the accepted level rises; the pulse in
progress completes a record of the run's start less its leading edge, classed NARROW below W_eq, BROAD from W_broad
and else LINE; with no pulse in progress no record completes, and the wait-for-rise flag clears (R3, R4, R5). On the tick
at which a new filter width was taken during the run, the one before it still judges the run, which is the model's inference
from R2 (log 38). The record's width
is held to 65,535, as R5's range asks of a late sender (log 28). -/
def Obligations.AcceptedRise : Prop :=
  ∀ (now t0 : Time) (s : State), s.Ready →
    let width : Nat := match s.front.filter.hold with
      | some (t, w) => if t = now then w else s.fRise
      | none => s.fRise
    (s.front.filter.accepted = .low → s.front.filter.run = some t0 → (width : Int) ≤ (now - t0).toInt →
      (∀ lead, s.front.pulse = some lead →
        exec (.acceptedRise now) s = .next (({ s.at now with
          front := { s.front with filter := { accepted := .high, run := none }, pulse := none, waitRise := false }
          } : State).completePulse
            { lead := lead
              width := min 65535 (t0 - lead).toInt.toNat
              cls := if min 65535 (t0 - lead).toInt.toNat < s.wEq then .narrow
                     else if s.wBroad ≤ min 65535 (t0 - lead).toInt.toNat then .broad else .line }).drive) ∧
      (s.front.pulse = none →
        exec (.acceptedRise now) s = .next ({ s.at now with
          front := { s.front with filter := { accepted := .high, run := none }, waitRise := false } } : State).drive)) ∧
    ((s.front.filter.accepted = .high ∨ s.front.filter.run = none ∨
        (s.front.filter.run = some t0 ∧ (now - t0).toInt < width)) →
      exec (.acceptedRise now) s = .next (s.at now).drive)

/-- PULSE_SATURATION: a pulse still in progress 65,535 ticks after its leading edge completes as a BROAD record of width
65,535 and the wait-for-rise flag is set; before that, or with no pulse, only the instant moves on (R4). -/
def Obligations.PulseSaturation : Prop :=
  ∀ (now lead : Time) (s : State), s.Ready →
    (s.front.pulse = some lead → 65535 ≤ (now - lead).toInt →
      exec (.pulseSaturation now) s = .next (({ s.at now with
        front := { s.front with pulse := none, waitRise := true } } : State).completePulse
          { lead := lead, width := 65535, cls := .broad }).drive) ∧
    ((s.front.pulse = none ∨ (s.front.pulse = some lead ∧ (now - lead).toInt < 65535)) →
      exec (.pulseSaturation now) s = .next (s.at now).drive)

/-- A completed record. One that is no field start: a NARROW or LINE record adds one to the run count up to 65,535, a BROAD
one sets it to 0, and the record joins the pulse queue or is lost with PULSE OVERRUN (R6, R7, R9). A field start without a
valid prediction has unknown parity and ends the field measure record only (R10, R11, R14, R17); at the very instant at
which a RELEASE moved the loop out of LOCKED, it also clears the misalignment count where the prediction just left gives it
parity 1, since its frame check is skipped (R82; the model's inference, log 41). A field start with a valid
prediction and phase φ has parity 1 where 4|φ| ≤ Pb and else 2; the line counter is forced to the value R13 gives, with
FIELD IRREGULAR, bit 4, where a valid value changes; the parity is set, the field measure record is copied and cleared, and
at parity 1 the frame check follows (R10, R11, R13, R14, R17). With Pb at 0 R13's count of lines is free (log 33). -/
def Obligations.CompletedRecord : Prop :=
  ∀ (p : Pulse) (s : State),
    ((p.cls = .broad → s.front.runCount < 6) →
      s.completePulse p = ({ s with front := { s.front with
        runCount := if p.cls = .broad then 0 else min 65535 (s.front.runCount + 1) } } : State).queued p) ∧
    (p.cls = .broad → 6 ≤ s.front.runCount → s.loop.valid = false →
      s.completePulse p = ({ s with
        front := { s.front with
          runCount := 0
          last := s.front.accum
          accum := { accepted := 0, missed := 0, excused := 0, candidates := 0, maxError := 0, shortest := 0,
                     longest := 0, lines := 0, parity := .unknown } }
        align := { s.align with count :=
          if s.align.released = some s.timebase ∧ 4 * (s.phaseOf p.lead).natAbs ≤ s.pb then 0
          else s.align.count } } : State).queued p) ∧
    (∀ (phi : Int) (L : Nat), p.cls = .broad → 6 ≤ s.front.runCount → s.loop.valid = true →
      phi = s.phaseOf p.lead → L = (if 4 * phi.natAbs ≤ s.pb then 1 else (s.frameLines + 1) / 2) →
      let odd : Prop := 4 * phi.natAbs ≤ s.pb
      let lines (d : Int) : Int := if s.pb = 0 then Config.linesByZero d else (2 * d + s.pb) / (2 * s.pb)
      let now : Nat :=
        match s.front.lineTime with
        | none => L
        | some T =>
          ((L + (if ¬ odd ∧ phi < 0 then 1 else 0) +
            lines (T - (p.lead - BitVec.ofInt 32 phi)).toInt - 1) % s.frameLines).toNat + 1
      let par : Parity := if odd then .field1 else .field2
      let u : State := { s with
        front := { s.front with
          lineValid := true
          line := now
          parity := par
          last := s.front.accum
          accum := { accepted := 0, missed := 0, excused := 0, candidates := 0, maxError := 0, shortest := 0,
                     longest := 0, lines := 0, parity := par } }
        att := { s.att with causes :=
          if s.front.lineValid = true ∧ s.front.line ≠ now then s.att.causes ||| 0x0010 else s.att.causes } }
      let v : State := if odd then u.frameCheck else u
      s.completePulse p = ({ v with front := { v.front with runCount := 0 } } : State).queued p)

/-! ### The frame aligner -/

/-- The frame check: skipped, with the misalignment count 0, unless the loop is LOCKED, the raster captured and
FRAME MISMATCH does not hold; in place, count 0; out of place once, count 1; twice in a row, the slew record is set
whole and the loop enters SLEW (R81, R82, R83). -/
def Obligations.FrameCheck : Prop :=
  ∀ (delta : Int) (s : State),
    delta = ((s.vOff : Int) - s.raster.line + (s.frameLines / 2 : Nat)) % s.frameLines - (s.frameLines / 2 : Nat) →
    s.frameCheck =
      if ¬ (s.loop.state = .locked ∧ s.raster.phase = .captured ∧ s.raster.frameLen = some s.frameLines) ∨ delta = 0 then
        { s with align := { s.align with count := 0 } }
      else if s.align.count = 0 then { s with align := { s.align with count := 1 } }
      else { s with
        align := { s.align with
          count := 0, forward := decide (0 < delta), distance := 4096 * delta.natAbs, stepA := s.slewStep,
          top := if s.slewLimit / s.slewStep = 0 then 1 else s.slewLimit / s.slewStep, level := 0,
          abandon := false }
        loop := { s.loop with state := .slew, candidates := [], holdoverOwed := false } }

/-- A local line start in SLEW takes the largest of m + 1, m and m - 1 that lies within 0..M and whose run-down
a m' (m' + 1) / 2 is within D, takes m' a from D, and hands F offset by floor(F m' a / 4096); at m' = 0 the slew ends with
SLEW DONE, bit 6, in OFF where it was abandoned, and else in PULL or COAST by the edgeless count (R84, R85, R87). In any
other state the frame aligner does nothing at a local line start. -/
def Obligations.SlewLine : Prop :=
  ∀ (s : State) (m i : Nat),
    (s.loop.state ≠ .slew → s.slewLine = s) ∧
    (s.loop.state = .slew → s.SlewCanStop →
      (m = s.align.level + 1 ∨ m = s.align.level ∨ m + 1 = s.align.level) →
      m ≤ s.align.top → s.align.stepA * m * (m + 1) / 2 ≤ s.align.distance →
      (m ≤ s.align.level → s.align.level + 1 ≤ s.align.top →
        s.align.distance < s.align.stepA * (s.align.level + 1) * (s.align.level + 2) / 2) →
      (m < s.align.level → s.align.distance < s.align.stepA * s.align.level * (s.align.level + 1) / 2) →
      i = clampInt s.iMin s.iMax
        (if s.align.forward then (s.loop.freq : Int) + (s.loop.freq * m * s.align.stepA / 4096 : Nat)
         else (s.loop.freq : Int) - (s.loop.freq * m * s.align.stepA / 4096 : Nat)) →
      let u : State := { s with
        align := { s.align with level := m, distance := s.align.distance - m * s.align.stepA }
        loop := { s.loop with inc := i }
        synth := { s.synth with handed := i } }
      s.slewLine =
        if m ≠ 0 then u
        else if s.align.abandon then (u.entered .off).withCauses 0x0040
        else if s.loop.edgeless < s.mCoast then
          ({ u with loop := { u.loop with
            state := .pull, lockCount := 0, missedRun := 0, candidates := [], holdoverOwed := false } } : State).withCauses
            0x0040
        else
          ({ u with
            loop := { u.loop with
              state := .coast, inc := clamp s.iMin s.iMax s.loop.freq, returnCount := 0, holdCount := 0,
              candidates := [], holdoverOwed := false }
            synth := { u.synth with handed := clamp s.iMin s.iMax s.loop.freq } } : State).withCauses 0x0040)

/-! ### The loop takes records -/

/-- The phase of a time is the time less the predicted line start nearest to it, a tie going to the later line, brought
into -floor(Pb/2)..Pb - floor(Pb/2) - 1 by whole multiples of Pb (R10, R28), as an error is too (R57). The distance of the
time from the base is measured through the prediction of the line next to close, and line starts from the base on are
looked at (log 19). A record is given to the open line whose prediction is nearest to its leading edge, the later line on
a tie, unless it lies nearer to the line before the oldest open line (R27, log 17). -/
def Obligations.NearestPrediction : Prop :=
  (∀ (t : Time) (next : Nat) (d : Int) (s : State), 16 ≤ s.loop.pb16 →
    next = (match s.loop.lines.getLast? with
      | some o => o.line - s.loop.baseLine
      | none => 0) →
    d = roundDiv (next * s.loop.pb16) 16 + (t - later s.loop.base (roundDiv (next * s.loop.pb16) 16)).toInt → 0 ≤ d →
    ∃ k : Nat,
      (∀ j : Nat, j ≠ k →
        (d - roundDiv (k * s.loop.pb16) 16).natAbs < (d - roundDiv (j * s.loop.pb16) 16).natAbs ∨
          (j < k ∧ (d - roundDiv (k * s.loop.pb16) 16).natAbs = (d - roundDiv (j * s.loop.pb16) 16).natAbs)) ∧
      (s.pb : Int) ∣ s.phaseOf t - (d - roundDiv (k * s.loop.pb16) 16) ∧
      -((s.pb / 2 : Nat) : Int) ≤ s.phaseOf t ∧ s.phaseOf t < s.pb - ((s.pb / 2 : Nat) : Int)) ∧
  (∀ (x : Int) (pb : Nat), 0 < pb → (pb : Int) ∣ wrapPeriod x pb - x ∧
    -((pb / 2 : Nat) : Int) ≤ wrapPeriod x pb ∧ wrapPeriod x pb < pb - ((pb / 2 : Nat) : Int)) ∧
  (∀ (t : Time) (o b : OpenLine) (more : List OpenLine) (l : Loop), l.lines = o :: more →
    (l.lineFor t = none ↔ (t - l.priorPred).toInt < (o.pred - t).toInt) ∧
    (l.lineFor t = some b →
      ∃ before after, l.lines = before ++ b :: after ∧
        (∀ x ∈ before, (t - b.pred).toInt.natAbs ≤ (t - x.pred).toInt.natAbs) ∧
        (∀ x ∈ after, (t - b.pred).toInt.natAbs < (t - x.pred).toInt.natAbs)))

/-- RECORD_TAKEN where the record, if one is taken, moves nothing but the queue: an empty queue, or a seek computation
in flight, in which nothing is taken (R8); in OFF (R27); a stray record; a LINE record for a line with its edge taken,
outside the gates, or wide in FROZEN or SLEW. A NARROW or BROAD record excuses its line and does nothing more
(R29, R30, R35). -/
def Obligations.RecordWithoutEdge : Prop :=
  ∀ s : State, s.Unowed →
    ((s.front.queue = [] ∨ s.loop.seek.inFlight = true) → exec .recordTaken s = .next s.drive) ∧
    ∀ (p : Pulse) (rest : List Pulse), s.front.queue = p :: rest → s.loop.seek.inFlight = false →
      let off (o : OpenLine) : Nat := (p.lead - o.pred).toInt.natAbs
      let u : State := { s with front := { s.front with queue := rest } }
      (s.loop.state = .off → exec .recordTaken s = .next u.drive) ∧
      (s.loop.state ≠ .off → s.loop.state ≠ .seek →
        (s.loop.lineFor p.lead = none → exec .recordTaken s = .next u.drive) ∧
        (∀ o, s.loop.lineFor p.lead = some o →
          (p.cls ≠ .line → exec .recordTaken s = .next ({ u with loop := { u.loop with
            lines := u.loop.lines.map fun x => if x.line = o.line then { x with excused := true } else x } } : State).drive) ∧
          (p.cls = .line → (o.edge = true ∨ s.gW < off o ∨
              (s.gN < off o ∧ (s.loop.state = .frozen ∨ s.loop.state = .slew))) →
            exec .recordTaken s = .next u.drive)))

/-- RECORD_TAKEN in SEEK: a NARROW or BROAD record clears the seek; a first LINE record becomes the previous LINE time;
an interval within P_lo..P_hi is added and counted, any other clears the sum and the count; and at sixteen the
computation begins, with Pb16 the sum and the L_dots in force kept for it (R45, R53). -/
def Obligations.SeekRecords : Prop :=
  ∀ (p : Pulse) (rest : List Pulse) (s : State), s.Unowed → s.loop.state = .seek → s.loop.seek.inFlight = false →
    s.front.queue = p :: rest →
    let k := s.loop.seek
    let then' (seek : Seek) (pb16 : Nat) : State :=
      ({ s with
        front := { s.front with queue := rest }
        loop := { s.loop with seek := seek, pb16 := pb16 } } : State).drive
    (p.cls ≠ .line →
      exec .recordTaken s = .next (then' { k with prev := none, acc := 0, count := 0 } s.loop.pb16)) ∧
    (p.cls = .line → k.prev = none →
      exec .recordTaken s = .next (then' { k with prev := some p.lead } s.loop.pb16)) ∧
    (∀ prev, p.cls = .line → k.prev = some prev →
      let i := (p.lead - prev).toInt
      (¬ ((s.pLo : Int) ≤ i ∧ i ≤ s.pHi) →
        exec .recordTaken s = .next (then' { k with prev := some p.lead, acc := 0, count := 0 } s.loop.pb16)) ∧
      ((s.pLo : Int) ≤ i → i ≤ s.pHi → k.count + 1 < 16 →
        exec .recordTaken s = .next
          (then' { k with prev := some p.lead, acc := k.acc + i.toNat, count := k.count + 1 } s.loop.pb16)) ∧
      ((s.pLo : Int) ≤ i → i ≤ s.pHi → k.count = 15 →
        exec .recordTaken s = .next
          (then' { prev := some p.lead, acc := k.acc + i.toNat, count := 16, inFlight := true, lineStarts := 0,
                   dots := s.setupDots } (k.acc + i.toNat))))

/-- RECORD_TAKEN with a normal edge in FROZEN or SLEW: the edge is held. It becomes the base and the edge reference, its
line has its edge taken and the edgeless count is 0; Pb16, F, I and the field measure record stay (R28, R30). -/
def Obligations.HeldEdge : Prop :=
  ∀ (p : Pulse) (rest : List Pulse) (o : OpenLine) (s : State), s.Unowed →
    (s.loop.state = .frozen ∨ s.loop.state = .slew) → s.loop.seek.inFlight = false → s.front.queue = p :: rest →
    s.loop.lineFor p.lead = some o → p.cls = .line → o.edge = false → (p.lead - o.pred).toInt.natAbs ≤ s.gN →
    exec .recordTaken s = .next ({ s with
      front := { s.front with queue := rest }
      loop := { s.loop with
        base := p.lead, baseLine := o.line, refTime := p.lead, refLine := o.line, edgeless := 0
        lines := edgeLines p.lead o.line s.loop.pb16 s.loop.lines } } : State).drive

/-- RECORD_TAKEN with an accepted edge in PULL: after parts 1 to 4 of R31, e is T_loc less the edge less H_off, wrapped
to a Pb (with Pb at 0: log 33) and clamped to -1023..1023; F becomes F + e Gi_pull and I the new F + e Gp_pull, both
clamped; and the lock count moves, LOCKED being entered with LOCK GAINED, bit 0, at N_lock (R31, R32, R36, R56 to R60).
With both gains 0, I becomes F also where it was not F, the model's inference (log 40). -/
def Obligations.PullUpdate : Prop :=
  ∀ (p : Pulse) (rest : List Pulse) (o : OpenLine) (v : State) (e : Int) (f i lc : Nat) (s : State), s.Unowed →
    s.loop.state = .pull → s.loop.seek.inFlight = false → s.front.queue = p :: rest →
    s.loop.lineFor p.lead = some o → p.cls = .line → o.edge = false → (p.lead - o.pred).toInt.natAbs ≤ s.gW →
    v = ({ s with front := { s.front with queue := rest } } : State).edgeTaken p.lead o →
    e = max (-1023) (min 1023 (wrapPeriod ((s.raster.lastStart - p.lead).toInt - s.hOff)
      (roundDiv v.loop.pb16 16))) →
    f = clampInt s.iMin s.iMax (s.loop.freq + e * s.giPull) → i = clampInt s.iMin s.iMax (f + e * s.gpPull) →
    lc = (if e.natAbs ≤ s.tLock then s.loop.lockCount + 1 else 0) →
    let w : State := { v with
      front := { v.front with accum := { v.front.accum with maxError := max v.front.accum.maxError e.natAbs } }
      loop := { v.loop with freq := f, inc := i, lastE := e, lockCount := lc }
      synth := { v.synth with handed := i } }
    exec .recordTaken s = .next (if lc < s.nLock then w
      else { w with
        loop := { w.loop with
          state := .locked, unlockCount := 0, missedRun := 0, candidates := [], holdoverOwed := false }
        att := { w.att with causes := w.att.causes ||| 0x0001 } } : State).drive

/-- RECORD_TAKEN with an accepted edge, a normal one, in LOCKED: as in PULL, with the gains of LOCKED; the candidate
list is emptied, and the unlock count moves, PULL being entered at N_unlock (R31, R32, R37, R43, R56 to R60). With Pb at 0
the wrap of e is a free value, the model's choice (log 33); with both gains 0, I becomes F also where it was not F, the
model's inference (log 40). -/
def Obligations.LockedUpdate : Prop :=
  ∀ (p : Pulse) (rest : List Pulse) (o : OpenLine) (v : State) (e : Int) (f i uc : Nat) (s : State), s.Unowed →
    s.loop.state = .locked → s.loop.seek.inFlight = false → s.front.queue = p :: rest →
    s.loop.lineFor p.lead = some o → p.cls = .line → o.edge = false → (p.lead - o.pred).toInt.natAbs ≤ s.gN →
    v = ({ s with front := { s.front with queue := rest } } : State).edgeTaken p.lead o →
    e = max (-1023) (min 1023 (wrapPeriod ((s.raster.lastStart - p.lead).toInt - s.hOff)
      (roundDiv v.loop.pb16 16))) →
    f = clampInt s.iMin s.iMax (s.loop.freq + e * s.giLock) → i = clampInt s.iMin s.iMax (f + e * s.gpLock) →
    uc = (if s.tUnlock < e.natAbs then s.loop.unlockCount + 1 else 0) →
    let w : State := { v with
      front := { v.front with accum := { v.front.accum with maxError := max v.front.accum.maxError e.natAbs } }
      loop := { v.loop with freq := f, inc := i, lastE := e, unlockCount := uc, candidates := [] }
      synth := { v.synth with handed := i } }
    exec .recordTaken s = .next (if uc < s.nUnlock then w
      else { w with loop := { w.loop with
        state := .pull, lockCount := 0, missedRun := 0, holdoverOwed := false } } : State).drive

/-- RECORD_TAKEN with an accepted edge in COAST: no update; the return count goes up, and PULL is entered at R_return
(R31, R39). Where the same edge's line close has run the holdover out as well, either of the two transitions follows
(log 7). -/
def Obligations.CoastReturn : Prop :=
  ∀ (p : Pulse) (rest : List Pulse) (o : OpenLine) (v : State) (s : State), s.Unowed →
    s.loop.state = .coast → s.loop.seek.inFlight = false → s.front.queue = p :: rest →
    s.loop.lineFor p.lead = some o → p.cls = .line → o.edge = false → (p.lead - o.pred).toInt.natAbs ≤ s.gW →
    v = ({ s with front := { s.front with queue := rest } } : State).edgeTaken p.lead o →
    let w : State := { v with loop := { v.loop with returnCount := s.loop.returnCount + 1 } }
    let back : State := { w with loop := { w.loop with
      state := .pull, lockCount := 0, missedRun := 0, candidates := [], holdoverOwed := false } }
    (s.loop.returnCount + 1 < s.rReturn → exec .recordTaken s = .next w.drive) ∧
    (s.rReturn ≤ s.loop.returnCount + 1 → v.loop.holdoverOwed = false → exec .recordTaken s = .next back.drive) ∧
    (s.rReturn ≤ s.loop.returnCount + 1 → v.loop.holdoverOwed = true →
      exec .recordTaken s = .next ({ back with choices := s.choices + 1 } : State).drive ∨
      exec .recordTaken s = .next ({ w with choices := s.choices + 1 } : State).drive)

/-- RECORD_TAKEN with a wide edge in LOCKED: it is entered as a candidate, alone where its offset is more than G_n from
the first entry's, and its line has its edge taken and its candidate mark set. At J_rephase entries the edge becomes the
base and the edge reference, REPHASE, bit 1, is raised and the loop enters PULL; F, I and Pb16 stay (R42, R44). -/
def Obligations.RephaseCandidate : Prop :=
  ∀ (p : Pulse) (rest : List Pulse) (o : OpenLine) (list : List Candidate) (s : State), s.Unowed →
    s.loop.state = .locked → s.loop.seek.inFlight = false → s.front.queue = p :: rest →
    s.loop.lineFor p.lead = some o → p.cls = .line → o.edge = false →
    let off := (p.lead - o.pred).toInt
    s.gN < off.natAbs → off.natAbs ≤ s.gW →
    list = (match s.loop.candidates with
      | [] => [{ time := p.lead, offset := off }]
      | first :: more =>
        if s.gN < (off - first.offset).natAbs then [{ time := p.lead, offset := off }]
        else first :: more ++ [{ time := p.lead, offset := off }]) →
    let u : State := { s with
      front := { s.front with
        queue := rest
        accum := { s.front.accum with candidates := min 65535 (s.front.accum.candidates + 1) } }
      loop := { s.loop with
        candidates := list
        lines := s.loop.lines.map fun x =>
          if x.line = o.line then { x with edge := true, candidate := true } else x } }
    exec .recordTaken s = .next (if list.length < s.jRephase then u
      else { u with
        loop := { u.loop with
          state := .pull, base := p.lead, baseLine := o.line, refTime := p.lead, refLine := o.line
          lines := edgeLines p.lead o.line s.loop.pb16 u.loop.lines
          candidates := [], lockCount := 0, missedRun := 0, holdoverOwed := false }
        att := { u.att with causes := u.att.causes ||| 0x0002 } } : State).drive

/-! ### The seek completes, lines close and settle -/

/-- SEEK_COMPLETE: before the second local line start, or with no computation in flight, nothing (R46). The result is
round(L_dots 2^28 / Pb16), and a free value where Pb16 is 0 (R54, log 26). One outside I_min..I_max is discarded with OFF
STANDARD, bit 3, and the seek starts again; one within becomes F and I, the loop enters PULL on the closing edge, and the
lines whose close times have passed close at once, in order, each as LINE_CLOSE closes it, until none is due: with Pb16 at
0 there is no last one, and their number is free (R47, R54, R55, log 33). The base line is numbered 0 (log 16); of the seek
state only the mark of a computation in flight clears (log 32); the prediction of the line before the first open line is
the base (log 17). -/
def Obligations.SeekCompletes : Prop :=
  (∀ (s : State) (r : Nat), s.Unowed →
    ((s.loop.seek.inFlight = false ∨ s.loop.seek.lineStarts < 2) → exec .seekComplete s = .next s.drive) ∧
    (s.loop.seek.inFlight = true → 2 ≤ s.loop.seek.lineStarts →
      r = (if s.loop.pb16 = 0 then Config.quotientByZero s.loop.seek.dots
           else (2 * (s.loop.seek.dots * 2 ^ 28) + s.loop.pb16) / (2 * s.loop.pb16)) →
      (¬ (s.iMin ≤ r ∧ r ≤ s.iMax) →
        exec .seekComplete s = .next ({ s with
          loop := { s.loop with seek := { s.loop.seek with prev := none, acc := 0, count := 0, inFlight := false } }
          att := { s.att with causes := s.att.causes ||| 0x0008 } } : State).drive) ∧
      (s.iMin ≤ r → r ≤ s.iMax →
        let edge := s.loop.seek.prev.getD 0
        let u : State := { s with
          loop := { s.loop with
            state := .pull, freq := r, inc := r, lockCount := 0, missedRun := 0, candidates := []
            valid := true, base := edge, baseLine := 0, refTime := edge, refLine := 0, priorPred := edge
            seek := { s.loop.seek with inFlight := false }
            lines := [{ line := 1, pred := later edge (roundDiv s.loop.pb16 16), closed := false, edge := false,
                        excused := false, candidate := false }] }
          synth := { s.synth with handed := r } }
        (u.closeDue = none → exec .seekComplete s = .next u.drive) ∧
        ∃ k, exec .seekComplete s = .next (u.closePassed k).drive ∧
          (1 ≤ s.loop.pb16 → s.loop.pb16 ≤ 1048560 → (u.closePassed k).closeDue = none)))) ∧
  (∀ (u : State) (t : Time) (n : Nat),
    u.closePassed 0 = u ∧ (u.closeDue = none → u.closePassed (n + 1) = u) ∧
    (u.closeDue = some t → u.closePassed (n + 1) = (u.closeLine t).closePassed n) ∧
    (u.closeDue = some t ↔ ∃ o, u.loop.lines.getLast? = some o ∧ t = o.pred ∧ u.loop.valid = true ∧
      ((if u.loop.state = .pull ∨ u.loop.state = .coast then u.gW else u.gN : Nat) : Int) ≤
        (u.timebase - o.pred).toInt) ∧
    (u.Ready → u.closeDue = some t → exec (.lineClose u.timebase) u = .next (u.closeLine t).drive))

/-- LINE_CLOSE: a line closes once the timebase has reached its prediction plus the gate half-width, G_w in PULL and
COAST and G_n in the other states; it is marked closed and the next line opens, and its start event, with the predicted
time, is counted, advances a valid line counter, N going to 1, and is then looked at by the cue unit; in COAST the
holdover count goes up, and at H_hold HOLDOVER_EXPIRED is owed (R12, R17, R33, R39; log 6). -/
def Obligations.LineCloses : Prop :=
  ∀ (now : Time) (o : OpenLine) (s : State), s.Ready → s.loop.lines.getLast? = some o →
    let gate := if s.loop.state = .pull ∨ s.loop.state = .coast then s.gW else s.gN
    ((s.loop.valid = false ∨ (now - o.pred).toInt < gate) → exec (.lineClose now) s = .next (s.at now).drive) ∧
    (s.loop.valid = true → (gate : Int) ≤ (now - o.pred).toInt →
      let u : State := { s.at now with
        loop := { s.loop with lines := s.loop.lines.dropLast ++
          [{ o with closed := true },
           { line := o.line + 1
             pred := later s.loop.base (roundDiv ((o.line + 1 - s.loop.baseLine) * s.loop.pb16) 16)
             closed := false, edge := false, excused := false, candidate := false }] }
        front := { s.front with
          lineTime := some o.pred
          line := if s.front.lineValid then (if s.frameLines ≤ s.front.line then 1 else s.front.line + 1)
                  else s.front.line
          accum := { s.front.accum with lines := min 65535 (s.front.accum.lines + 1) } } }
      let v := if s.front.lineValid then u.look .broadcast u.front.line s.front.parity o.pred else u
      exec (.lineClose now) s = .next ({ v with loop := { v.loop with
        holdCount := if s.loop.state = .coast then s.loop.holdCount + 1 else s.loop.holdCount
        holdoverOwed := decide (s.loop.state = .coast ∧ s.hHold ≤ s.loop.holdCount + 1) } } : State).drive)

/-- LINE_SETTLE: the oldest open line, closed, past the end of its share and with no pulse that began within its share
still in progress or queued, leaves the open lines with its outcome: nothing for an edge taken, and else one more
edgeless line, an excused line reported, or a missed line reported and counted, COAST being entered at M_coast from
PULL and LOCKED (R34, R38); a line with none but outside records is missed, and in PULL sets the lock count to 0 (log 39).
The share begins midway from the kept prediction of the line before (log 17), and a pulse in
progress counts from its accepted fall (log 18). Before that only the instant moves on. -/
def Obligations.LineSettles : Prop :=
  ∀ (now : Time) (o b : OpenLine) (rest : List OpenLine) (s : State), s.Ready → s.loop.lines = o :: b :: rest →
    let inShare (t : Time) : Prop :=
      ¬ (t - s.loop.priorPred).toInt < (o.pred - t).toInt ∧ (t - o.pred).toInt < (b.pred - t).toInt
    let pulses : List Time := s.front.pulse.toList ++ s.front.queue.map Pulse.lead
    ((s.loop.valid = false ∨ o.closed = false ∨ (now - o.pred).toInt < (b.pred - now).toInt ∨
        (∃ t ∈ pulses, inShare t)) →
      exec (.lineSettle now) s = .next (s.at now).drive) ∧
    (s.loop.valid = true → o.closed = true → ¬ (now - o.pred).toInt < (b.pred - now).toInt →
      (∀ t ∈ pulses, ¬ inShare t) →
      let u : State := { s.at now with loop := { s.loop with lines := b :: rest, priorPred := o.pred } }
      let more := min 65535 (s.loop.edgeless + 1)
      let v : State := { u with loop := { u.loop with edgeless := more } }
      let w : State := { v with front := { s.front with accum := { s.front.accum with
        missed := min 65535 (s.front.accum.missed + 1) } } }
      let run := s.loop.missedRun + 1
      let coast (l : Loop) : State := { w with
        loop := { l with
          state := .coast, inc := clamp s.iMin s.iMax s.loop.freq, returnCount := 0, holdCount := 0, candidates := [] }
        synth := { w.synth with handed := clamp s.iMin s.iMax s.loop.freq } }
      (o.edge = true → o.candidate = false → exec (.lineSettle now) s = .next u.drive) ∧
      (o.candidate = true → exec (.lineSettle now) s = .next v.drive) ∧
      (o.edge = false → o.candidate = false → o.excused = true →
        exec (.lineSettle now) s = .next ({ v with front := { s.front with accum := { s.front.accum with
          excused := min 65535 (s.front.accum.excused + 1) } } } : State).drive) ∧
      (o.edge = false → o.candidate = false → o.excused = false →
        exec (.lineSettle now) s = .next
          (if s.loop.state = .pull then
            if run < s.mCoast then { w with loop := { w.loop with missedRun := run, lockCount := 0 } }
            else coast { w.loop with missedRun := run, lockCount := 0 }
          else if s.loop.state = .locked then
            if run < s.mCoast then { w with loop := { w.loop with missedRun := run } }
            else coast { w.loop with missedRun := run }
          else if s.loop.state = .coast then { w with loop := { w.loop with returnCount := 0 } }
          else w : State).drive))

/-! ### Owed steps -/

/-- The two steps that the step before brings about. HOLDOVER_EXPIRED, owed by a line close in COAST: the loop enters SEEK
and raises HOLDOVER EXPIRED, bit 2, with F kept (R21, R39). DWELL_EXPIRED, owed by a local field start: the chain advances
one step to the next set of the live header, with its full dwell, or to NONE with CHAIN END, bit 7 (R102, R103). Where none
is owed the row does nothing, and what is owed is taken before any row that is presented (the model's choice, log 6). -/
def Obligations.OwedSteps : Prop :=
  ∀ s : State, s.resetHeld = false →
    (∀ c : Instr, c ≠ .powerResetEnd → exec c s = exec c s.caughtUp) ∧
    (s.title.dwellOwed = false →
      (s.loop.holdoverOwed = true →
        exec .holdoverExpired s = .next ((s.entered .seek).withCauses 0x0004).drive) ∧
      (s.loop.holdoverOwed = false → exec .holdoverExpired s = .next s.drive)) ∧
    (s.loop.holdoverOwed = false →
      (s.title.dwellOwed = false → exec .dwellExpired s = .next s.drive) ∧
      (s.title.dwellOwed = true →
        (s.title.active = none → exec .dwellExpired s =
          .next ({ s with title := { s.title with dwellOwed := false } } : State).drive) ∧
        (∀ i, s.title.active = some i →
          (∀ j, s.title.sets[i].next = some j → exec .dwellExpired s = .next ({ s with title := { s.title with
            active := some j, remaining := s.title.sets[j].dwell, dwellOwed := false } } : State).drive) ∧
          (s.title.sets[i].next = none → exec .dwellExpired s = .next (({ s with title := { s.title with
            active := none, remaining := 0, dwellOwed := false } } : State).withCauses 0x0080).drive))))

/-! ### Commands -/

/-- ENGAGE, RELEASE, FREEZE and RESUME at the head of the queue with no seek computation in flight: the transitions of
section 2.2 with their entry actions, the verdicts, and the abandon of a slew (R21 to R25, R88). A RELEASE in LOCKED leaves
the aligner the instant of the release, for R82's rule on a frame check of the same instant (the model's mark, log 41). -/
def Obligations.LoopCommands : Prop :=
  ∀ (small : Byte) (arg : Word) (rest : List Command) (s : State), s.loop.seek.inFlight = false →
    let st := s.loop.state
    let freq := clamp s.iMin s.iMax s.loop.freq
    (s.Heads ⟨0x01, small, arg⟩ rest → exec (.engage small arg) s = .next
      (if st = .off then (s.entered .seek).afterCommand 0x01 rest .accepted
       else s.afterCommand 0x01 rest .refusedState).drive) ∧
    (s.Heads ⟨0x02, small, arg⟩ rest → exec (.release small arg) s = .next
      (if st = .off then s.afterCommand 0x02 rest .refusedState
       else if st = .slew then
        ({ s with align :=
          if s.align.abandon then s.align
          else { s.align with abandon := true, distance := s.align.stepA * s.align.level * (s.align.level - 1) / 2 }
          } : State).afterCommand 0x02 rest .accepted
       else (({ s with align :=
          if st = .locked then { s.align with released := some s.timebase } else s.align
          } : State).entered .off).afterCommand 0x02 rest .accepted).drive) ∧
    (s.Heads ⟨0x03, small, arg⟩ rest → exec (.freeze small arg) s = .next
      (if st = .pull ∨ st = .locked ∨ st = .coast then
        ({ s with
          loop := { s.loop with state := .frozen, inc := freq, candidates := [] }
          synth := { s.synth with handed := freq } } : State).afterCommand 0x03 rest .accepted
       else s.afterCommand 0x03 rest .refusedState).drive) ∧
    (s.Heads ⟨0x04, small, arg⟩ rest → exec (.resume small arg) s = .next
      (if st = .frozen then
        ({ s with
          loop := { s.loop with state := .coast, inc := freq, returnCount := 0, holdCount := 0, candidates := [] }
          synth := { s.synth with handed := freq } } : State).afterCommand 0x04 rest .accepted
       else s.afterCommand 0x04 rest .refusedState).drive)

/-- The delivery of the command queue. A loop command at the head waits while a seek computation is in flight, and the
commands behind it wait (R26, R167). Any other head is delivered at once: before the row of a command behind it, before
the instant moves on, and before the next bus cycle (R166, log 15). A command presented to an
empty queue joins it and is taken as its head, and while BRESET# is held there is no command (R166, R171; log 15). -/
def Obligations.CommandsInTheirTurn : Prop :=
  ∀ (c : Command) (s : State), s.Unowed →
    (s.bresetHeld = true → exec c.row s = .next s.drive) ∧
    (s.bresetHeld = false → s.bus.queue = [] →
      exec c.row s = exec c.row { s with bus := { s.bus with queue := [c] } }) ∧
    (∀ h rest, s.Heads h rest →
      let waits : Prop :=
        (h.code = 0x01 ∨ h.code = 0x02 ∨ h.code = 0x03 ∨ h.code = 0x04) ∧ s.loop.seek.inFlight = true
      (waits → exec c.row s = .next s.drive) ∧
      (¬ waits → ∃ u : State, exec h.row s = .next u.drive ∧ u.bus.queue = rest ∧
        (c ≠ h → exec c.row s = exec c.row u) ∧
        ∀ i : Instr, i.servesFirst s.timebase = true → exec i s = exec i u))

/-- ADOPT, SHOW, STOP and ADVANCE at the head of the queue: the adopt-request flag, the active set and its remaining
dwell, CHAIN END, bit 7, and the verdicts (R97, R103, R105, R106, R107). -/
def Obligations.TitleCommands : Prop :=
  ∀ (small : Byte) (arg : Word) (rest : List Command) (s : State),
    let show' (i : Fin 4) : State := { s with title := { s.title with
      active := some i, remaining := s.title.sets[i].dwell } }
    let none' : State := { s with title := { s.title with active := none, remaining := 0 } }
    (s.Heads ⟨0x08, small, arg⟩ rest → exec (.adopt small arg) s = .next
      (({ s with title := { s.title with adoptRequest := true } } : State).afterCommand 0x08 rest .accepted).drive) ∧
    (s.Heads ⟨0x10, small, arg⟩ rest →
      (∀ i : Fin 4, small.toNat = i.val → exec (.showSet small arg) s = .next
        ((show' i).afterCommand 0x10 rest .accepted).drive) ∧
      (4 ≤ small.toNat → exec (.showSet small arg) s = .next (s.afterCommand 0x10 rest .refusedArgument).drive)) ∧
    (s.Heads ⟨0x11, small, arg⟩ rest →
      exec (.stop small arg) s = .next (none'.afterCommand 0x11 rest .accepted).drive) ∧
    (s.Heads ⟨0x12, small, arg⟩ rest →
      (s.title.active = none → exec (.advance small arg) s = .next (s.afterCommand 0x12 rest .refusedState).drive) ∧
      (∀ i, s.title.active = some i → exec (.advance small arg) s = .next
        ((match s.title.sets[i].next with
          | some j => show' j
          | none => none'.withCauses 0x0080).afterCommand 0x12 rest .accepted).drive))

/-- FADE and CUT at the head of the queue: FADE gives its unit the low byte of ARG as target and the high byte as rate,
a rate of 0 being the live record's, and MOVING, or IDLE with RAMP DONE, bit 15, where the target is the level; CUT sets
level and target and stops the unit; a unit above 3 is REFUSED-ARGUMENT (R126, R127, R128). -/
def Obligations.FadeAndCut : Prop :=
  ∀ (small : Byte) (arg : Word) (rest : List Command) (s : State),
    let unit (i : Fin 4) (r : Ramp) : State := { s with keyer := { s.keyer with ramps := s.keyer.ramps.set i r } }
    let low := arg.toNat % 256
    let high := arg.toNat / 256
    (s.Heads ⟨0x20, small, arg⟩ rest →
      (∀ i : Fin 4, small.toNat = i.val → exec (.fade small arg) s = .next
        (((unit i { level := s.keyer.ramps[i].level, target := low
                    rate := if high = 0 then s.title.ramps[i].rate else high
                    moving := decide (low ≠ s.keyer.ramps[i].level), unstarted := false }).withCauses
          (if low = s.keyer.ramps[i].level then 0x8000 else 0)).afterCommand 0x20 rest .accepted).drive) ∧
      (4 ≤ small.toNat → exec (.fade small arg) s = .next (s.afterCommand 0x20 rest .refusedArgument).drive)) ∧
    (s.Heads ⟨0x21, small, arg⟩ rest →
      (∀ i : Fin 4, small.toNat = i.val → exec (.cut small arg) s = .next
        ((unit i { level := low, target := low, rate := s.keyer.ramps[i].rate, moving := false, unstarted := false
          }).afterCommand 0x21 rest .accepted).drive) ∧
      (4 ≤ small.toNat → exec (.cut small arg) s = .next (s.afterCommand 0x21 rest .refusedArgument).drive))

/-- COUNT SET at the head of the queue: in RING mode the counter takes the value or the modulus less one, in LINEAR mode
the value, saturated at 65,535 with COUNT SATURATED, bit 9, where it was not there before; always ACCEPTED (R151). -/
def Obligations.CountSet : Prop :=
  ∀ (small : Byte) (arg : Word) (rest : List Command) (s : State), s.Heads ⟨0x30, small, arg⟩ rest →
    exec (.countSet small arg) s = .next
      ((if s.ringMode then
        { s with cue := { s.cue with
            counter := if arg.toNat < s.modulus then arg.toNat else s.modulus - 1, saturated := false } }
      else
        ({ s with cue := { s.cue with counter := arg.toNat, saturated := decide (arg.toNat = 65535) } } : State).withCauses
          (if arg.toNat = 65535 ∧ s.cue.counter ≠ 65535 then 0x0200 else 0)).afterCommand 0x30 rest .accepted).drive

/-- ACK at the head of the queue: every cause its mask names is cleared, FRAME MISMATCH, bit 14, is set again while its
condition holds, and naming RASTER FAULT, bit 13, clears the keyer's raster source; always ACCEPTED (R122, R174). A command
whose code is not in the command table is judged UNKNOWN by the bus watcher and reaches no block (R166, R168); the row
presented with a code of the table, which names a row of its own, has no effect (log 30). -/
def Obligations.AckAndUnknown : Prop :=
  ∀ (code small : Byte) (arg : Word) (rest : List Command) (s : State),
    (s.Heads ⟨0x40, small, arg⟩ rest → exec (.ack small arg) s = .next
      (({ s with
        att := { s.att with causes := (s.att.causes &&& ~~~arg) |||
          (if arg.getLsbD 14 = true ∧ s.att.mismatch = true then 0x4000 else 0) }
        keyer := { s.keyer with rasterSource := s.keyer.rasterSource && !arg.getLsbD 13 } } : State).afterCommand
          0x40 rest .accepted).drive) ∧
    (code ∉ [0x01, 0x02, 0x03, 0x04, 0x08, 0x10, 0x11, 0x12, 0x20, 0x21, 0x30, 0x40] →
      s.Heads ⟨code, small, arg⟩ rest →
      exec (.unknownCommand code small arg) s = .next (s.afterCommand code rest .unknown).drive) ∧
    (code ∈ [0x01, 0x02, 0x03, 0x04, 0x08, 0x10, 0x11, 0x12, 0x20, 0x21, 0x30, 0x40] → s.Unowed →
      exec (.unknownCommand code small arg) s = .next s.drive)


/-! ### Bus cycles -/

/-- The four rows of a CPU write are one cycle, classified by its address (R159, log 14). A write outside the cue area, to
its plain memory or to the report block, and any write while BRESET# is held, passes to DRAM and does nothing more
(R159, R171). -/
def Obligations.WritesOutsideTheCapturedWords : Prop :=
  ∀ (a : Addr) (w : Word) (l : Lanes) (s : State),
    exec (.structuralSetupWrite a w l) s = exec (.capturedWrite a w l) s ∧
    exec (.fieldCounterModeWrite a w l) s = exec (.capturedWrite a w l) s ∧
    exec (.enableMaskWrite a w l) s = exec (.capturedWrite a w l) s ∧
    (s.Ready →
      (s.bresetHeld = true ∨ a.toNat < s.bus.base.toNat ∨ s.bus.base.toNat + 0x7C1 < a.toNat ∨
        (s.bus.base.toNat + 0x048 < a.toNat ∧ a.toNat < s.bus.base.toNat + 0x100) ∨
        (s.bus.base.toNat + 0x2A3 < a.toNat ∧ a.toNat < s.bus.base.toNat + 0x7C0)) →
      exec (.capturedWrite a w l) s = .next ({ s with bus := { s.bus with toDram := some (.write a w l) } } : State).drive)

/-- CAPTURED_WRITE takes the written lanes into the word's shadow, keeping the other lane, and passes the cycle to DRAM:
the live loop setup, the raster, key and cue-input setup but the counter's words, the pending ramp records, window sets
and cue table, and ARG (R50, R96, R135, R160, R161, R164). A new CUE filter width judges a run in progress from the next
tick on (R153); that the old width judges at the tick of the write, and of several writes at one tick the one before the
first, is the model's inference (log 38). -/
def Obligations.CapturedWrites : Prop :=
  ∀ (a : Addr) (o : Nat) (w : Word) (l : Lanes) (s : State), s.Ready → s.bresetHeld = false →
    a.toNat = s.bus.base.toNat + o →
    let u : State := { s with bus := { s.bus with toDram := some (.write a w l) } }
    let lanes (old : Word) : Word :=
      BitVec.ofNat 16 ((if l.high then w.toNat / 256 else old.toNat / 256) * 256 +
        (if l.low then w.toNat % 256 else old.toNat % 256))
    (∀ h : 0x00C ≤ o ∧ o ≤ 0x01F, exec (.capturedWrite a w l) s = .next ({ u with setup := { s.setup with
      loop := s.setup.loop.set o (lanes s.setup.loop[o]) } } : State).drive) ∧
    (∀ h : 0x020 ≤ o ∧ o ≤ 0x03F, o ≠ 0x02A → o ≠ 0x02B → o ≠ 0x028 →
      exec (.capturedWrite a w l) s = .next ({ u with setup := { s.setup with
        aux := s.setup.aux.set (o - 0x020) (lanes s.setup.aux[o - 0x020]) } } : State).drive) ∧
    (o = 0x028 → exec (.capturedWrite a w l) s = .next ({ u with
      setup := { s.setup with aux := s.setup.aux.set 8 (lanes s.setup.aux[8]) }
      cue := { s.cue with filter := { s.cue.filter with
        hold :=
          if s.cue.filter.run = none then s.cue.filter.hold
          else match s.cue.filter.hold with
            | some (t, old) => some (s.timebase, if t = s.timebase then old else s.cueWidth)
            | none => some (s.timebase, s.cueWidth) } } } : State).drive) ∧
    (∀ h : 0x040 ≤ o ∧ o ≤ 0x047, exec (.capturedWrite a w l) s = .next ({ u with title := { s.title with
      pendingRamps := s.title.pendingRamps.set (o - 0x040) (lanes s.title.pendingRamps[o - 0x040]) } } : State).drive) ∧
    (∀ h : 0x100 ≤ o ∧ o ≤ 0x1FF, exec (.capturedWrite a w l) s = .next ({ u with title := { s.title with
      pendingSets := s.title.pendingSets.set (o - 0x100) (lanes s.title.pendingSets[o - 0x100]) } } : State).drive) ∧
    (∀ h : 0x200 ≤ o ∧ o ≤ 0x2A3, exec (.capturedWrite a w l) s = .next ({ u with cue := { s.cue with
      pendingTable := s.cue.pendingTable.set (o - 0x200) (lanes s.cue.pendingTable[o - 0x200]) } } : State).drive) ∧
    (o = 0x7C0 → exec (.capturedWrite a w l) s = .next ({ u with bus := { u.bus with arg := lanes s.bus.arg } } : State).drive)

/-- CAPTURED_WRITE to CMD takes the written lanes; one that uses the high lane enqueues a command, with the high byte
written as its code, the low byte of CMD after the write as its small argument and ARG as its argument word, or drops it
with COMMAND OVERRUN, bit 11, where 8 are queued; a write of the low lane alone enqueues nothing (R164, R165). -/
def Obligations.CommandWrite : Prop :=
  ∀ (a : Addr) (w : Word) (s : State), s.Ready → s.bresetHeld = false → a.toNat = s.bus.base.toNat + 0x7C1 →
    let u (l : Lanes) (cmd : Word) : State := { s with bus := { s.bus with toDram := some (.write a w l), cmd := cmd } }
    let half : Word := BitVec.ofNat 16 (w.toNat / 256 * 256 + s.bus.cmd.toNat % 256)
    let send (l : Lanes) (cmd : Word) : State :=
      if s.bus.queue.length < 8 then
        { u l cmd with bus := { (u l cmd).bus with queue := s.bus.queue ++
          [{ code := BitVec.ofNat 8 (cmd.toNat / 256), small := BitVec.ofNat 8 (cmd.toNat % 256), arg := s.bus.arg }] } }
      else (u l cmd).withCauses 0x0800
    exec (.capturedWrite a w ⟨true, true⟩) s = .next (send ⟨true, true⟩ w).drive ∧
    exec (.capturedWrite a w ⟨false, true⟩) s = .next (send ⟨false, true⟩ half).drive ∧
    exec (.capturedWrite a w ⟨true, false⟩) s = .next
      (u ⟨true, false⟩ (BitVec.ofNat 16 (s.bus.cmd.toNat / 256 * 256 + w.toNat % 256))).drive

/-- STRUCTURAL_SETUP_WRITE is taken in OFF, lane by lane, where a word of I_min or I_max clamps F into the new range and sets
I to F, a new frame standard evaluates FRAME MISMATCH, bit 14, and a new F_fall or F_rise judges a run in progress from the
next tick on; in any other state the shadow stays and SETUP LATE, bit 12, is raised. The cycle reaches DRAM in every state
(R2, R48, R49, R77, R160, R173). That the old filter width judges at the tick of the write, and of several writes at one
tick the one before the first, is the model's inference (log 38). -/
def Obligations.StructuralWrite : Prop :=
  ∀ (a : Addr) (o : Nat) (w : Word) (l : Lanes) (s : State) (h : o ≤ 0x00B), s.Ready → s.bresetHeld = false →
    a.toNat = s.bus.base.toNat + o →
    let u : State := { s with bus := { s.bus with toDram := some (.write a w l) } }
    let lanes (old : Word) : Word :=
      BitVec.ofNat 16 ((if l.high then w.toNat / 256 else old.toNat / 256) * 256 +
        (if l.low then w.toNat % 256 else old.toNat % 256))
    let v : State := { u with setup := { s.setup with loop := s.setup.loop.set o (lanes s.setup.loop[o]) } }
    let freq := clamp v.iMin v.iMax s.loop.freq
    let off := decide (s.raster.phase = .captured ∧ s.raster.frameLen ≠ some v.frameLines)
    let width : Nat := if s.front.filter.accepted = .high then s.fFall else s.fRise
    (s.loop.state ≠ .off → exec (.structuralSetupWrite a w l) s = .next (u.withCauses 0x1000).drive) ∧
    (s.loop.state = .off →
      (2 ≤ o → o ≤ 5 → exec (.structuralSetupWrite a w l) s = .next ({ v with
        loop := { s.loop with freq := freq, inc := freq }
        synth := { s.synth with handed := freq } } : State).drive) ∧
      (o = 0 → exec (.structuralSetupWrite a w l) s = .next ({ v with att := { s.att with
        causes := if off = true ∧ s.att.mismatch = false then s.att.causes ||| 0x4000 else s.att.causes
        mismatch := off } } : State).drive) ∧
      (o = 8 ∨ o = 9 → exec (.structuralSetupWrite a w l) s = .next ({ v with front := { s.front with
        filter := { s.front.filter with
          hold :=
            if s.front.filter.run = none then s.front.filter.hold
            else match s.front.filter.hold with
              | some (t, old) => some (s.timebase, if t = s.timebase then old else width)
              | none => some (s.timebase, width) } } } : State).drive) ∧
      (o = 1 ∨ o = 6 ∨ o = 7 ∨ 10 ≤ o → exec (.structuralSetupWrite a w l) s = .next v.drive))

/-- FIELD_COUNTER_MODE_WRITE is taken at once, lane by lane: in the new mode RING a counter not below the modulus in use
becomes the modulus less one, in LINEAR the counter stays; the saturated flag is set in LINEAR at 65,535 alone; no cause is
raised (R149, R150, R160). -/
def Obligations.CounterModeWrite : Prop :=
  ∀ (a : Addr) (o : Nat) (w : Word) (l : Lanes) (s : State) (h : 0x02A ≤ o ∧ o ≤ 0x02B), s.Ready →
    s.bresetHeld = false → a.toNat = s.bus.base.toNat + o →
    let lanes (old : Word) : Word :=
      BitVec.ofNat 16 ((if l.high then w.toNat / 256 else old.toNat / 256) * 256 +
        (if l.low then w.toNat % 256 else old.toNat % 256))
    let u : State := { s with
      bus := { s.bus with toDram := some (.write a w l) }
      setup := { s.setup with aux := s.setup.aux.set (o - 0x020) (lanes s.setup.aux[o - 0x020]) } }
    exec (.fieldCounterModeWrite a w l) s = .next ({ u with cue := { s.cue with
      counter := if u.ringMode = true ∧ u.modulus ≤ s.cue.counter then u.modulus - 1 else s.cue.counter
      saturated := decide (u.ringMode = false ∧ s.cue.counter = 65535) } } : State).drive

/-- ENABLE_MASK_WRITE takes the written lanes into the enable mask, in force from the end of the cycle: ATTN# then shows
whether some cause is pending and enabled (R175). -/
def Obligations.EnableMaskWrite : Prop :=
  ∀ (a : Addr) (w mask : Word) (l : Lanes) (s t : State), s.Ready → s.bresetHeld = false →
    a.toNat = s.bus.base.toNat + 0x048 →
    mask = BitVec.ofNat 16 ((if l.high then w.toNat / 256 else s.att.enable.toNat / 256) * 256 +
      (if l.low then w.toNat % 256 else s.att.enable.toNat % 256)) →
    t = { s with
      bus := { s.bus with toDram := some (.write a w l) }
      att := { s.att with enable := mask } } →
    exec (.enableMaskWrite a w l) s = .next t.drive ∧
    (t.drive.pins.attnLow = true ↔ ∃ n, n < 16 ∧ t.att.causes.getLsbD n = true ∧ t.att.enable.getLsbD n = true)

/-- REPORT_SUMMARY_READ: a read of 0x7E0 is answered with the live summary and takes the snapshot of the same state; a
read of 0x7E1..0x7FF is answered with the snapshot as it stands and changes nothing; every other read, and every read
while BRESET# is held, is answered by DRAM. The cycle with its lanes runs in DRAM in every case, and a word of the part's
own is in both lanes, whichever lanes the read uses (R159, R162, R163, R171, R177). The row is a read cycle of any address
(log 14). -/
def Obligations.ReportReads : Prop :=
  ∀ (a : Addr) (dram : ReadWord) (o : Nat) (s : State), s.Ready →
    let u (w : Word) : State := { s with bus := { s.bus with toDram := some (.read a dram.lanes), readData := w } }
    let summary : Nat :=
      s.loop.state.code + 8 * (if s.front.lineValid then 1 else 0) +
        16 * (match s.title.active with
          | some i => i.val
          | none => 4) +
        128 * (if s.att.causes &&& s.att.enable = 0 then 0 else 1)
    ((s.bresetHeld = true ∨ a.toNat < s.bus.base.toNat + 0x7E0 ∨ s.bus.base.toNat + 0x7FF < a.toNat) →
      exec (.reportSummaryRead a dram) s = .next (u dram.word).drive) ∧
    (s.bresetHeld = false → a.toNat = s.bus.base.toNat + 0x7E0 →
      exec (.reportSummaryRead a dram) s = .next ({ s with bus := { s.bus with
        toDram := some (.read a dram.lanes), readData := BitVec.ofNat 16 summary, snapshot := s.snapshotWords } } : State).drive) ∧
    (∀ h : 0x7E1 ≤ o ∧ o ≤ 0x7FF, s.bresetHeld = false → a.toNat = s.bus.base.toNat + o →
      exec (.reportSummaryRead a dram) s = .next (u s.bus.snapshot[o - 0x7E1]).drive)

/-- The layout of the snapshot (11.6, R182): every item is read back from its bits, a wide one by joining its parts, and
no item by its fixed value (R178), where each lies within its range. The codes of a loop state are 0 OFF, 1 SEEK, 2 PULL,
3 LOCKED, 4 COAST, 5 FROZEN and 6 SLEW, and those of a parity 0 unknown, 1 and 2 (11.5). -/
def Obligations.SnapshotLayout : Prop :=
  [LoopState.off, .seek, .pull, .locked, .coast, .frozen, .slew].map LoopState.code = [0, 1, 2, 3, 4, 5, 6] ∧
  [Parity.unknown, .field1, .field2].map Parity.code = [0, 1, 2] ∧
  ∀ s : State, let word (o : Nat) : Nat := numAt s.snapshotWords (o - 0x7E1)
    let field (o lo width : Nat) : Nat := word o / 2 ^ lo % 2 ^ width
    field 0x7E1 13 3 = s.loop.state.code ∧ field 0x7E1 11 2 = s.front.parity.code ∧
    field 0x7E1 10 1 = (if s.front.lineValid then 1 else 0) ∧ (s.front.line ≤ 625 → field 0x7E1 0 10 = s.front.line) ∧
    (s.loop.freq ≤ 8388607 → field 0x7E4 0 7 * 65536 + word 0x7E2 = s.loop.freq) ∧
    (s.loop.inc ≤ 8388607 → field 0x7E4 8 7 * 65536 + word 0x7E3 = s.loop.inc) ∧
    (wordAt s.snapshotWords 4 = BitVec.ofInt 16 s.loop.lastE) ∧
    (s.loop.pb16 ≤ 1048560 → field 0x7E7 0 4 * 65536 + word 0x7E6 = s.loop.pb16) ∧
    ((∀ n, s.raster.frameLen = some n → n ≤ 2048) → field 0x7E7 4 12 = s.raster.frameLen.getD 0) ∧
    (s.align.distance ≤ 1277952 → field 0x7E9 0 5 * 65536 + word 0x7E8 = s.align.distance) ∧
    (s.align.level ≤ 256 → field 0x7E9 5 9 = s.align.level) ∧
    (s.raster.line ≤ 2047 → field 0x7EA 0 11 = s.raster.line) ∧
    (s.cue.counter ≤ 65535 → word 0x7EB = s.cue.counter) ∧ (s.title.remaining ≤ 65535 → word 0x7EC = s.title.remaining) ∧
    field 0x7ED 0 3 = (match s.title.active with
      | some i => i.val
      | none => 4) ∧
    field 0x7ED 3 1 = (if s.cue.saturated then 1 else 0) ∧
    (∀ i : Fin 4, field 0x7ED (4 + i.val) 1 = if s.keyer.ramps[i].moving then 1 else 0) ∧
    ((∀ i, s.cue.lastCue = some i → i ≤ 39) → field 0x7ED 8 6 = s.cue.lastCue.getD 63) ∧
    (∀ i : Fin 4, s.keyer.ramps[i].level ≤ 255 →
      field (0x7EE + i.val / 2) (8 * (i.val % 2)) 8 = s.keyer.ramps[i].level) ∧
    wordAt s.snapshotWords 15 = s.att.causes ∧
    field 0x7F1 8 8 = s.bus.lastCode.toNat ∧ field 0x7F1 0 3 = (match s.bus.lastVerdict with
      | none => 0
      | some .accepted => 1
      | some .refusedState => 2
      | some .refusedArgument => 3
      | some .unknown => 4) ∧
    (s.front.last.accepted ≤ 65535 → word 0x7F2 = s.front.last.accepted) ∧
    (s.front.last.missed ≤ 65535 → word 0x7F3 = s.front.last.missed) ∧
    (s.front.last.excused ≤ 65535 → word 0x7F4 = s.front.last.excused) ∧
    (s.front.last.candidates ≤ 65535 → word 0x7F5 = s.front.last.candidates) ∧
    field 0x7F6 12 2 = s.front.last.parity.code ∧ (s.front.last.maxError ≤ 1023 → field 0x7F6 0 10 = s.front.last.maxError) ∧
    (s.front.last.shortest ≤ 65535 → word 0x7F7 = s.front.last.shortest) ∧
    (s.front.last.longest ≤ 65535 → word 0x7F8 = s.front.last.longest) ∧
    (s.front.last.lines ≤ 65535 → word 0x7F9 = s.front.last.lines) ∧
    word 0x7FB * 65536 + word 0x7FA = s.cue.latch.time.toNat ∧
    field 0x7FC 15 1 = (if s.cue.latch.lineValid then 1 else 0) ∧ field 0x7FC 10 3 = s.cue.latch.loopState.code ∧
    (s.cue.latch.line ≤ 625 → field 0x7FC 0 10 = s.cue.latch.line) ∧
    (s.cue.latch.localLine ≤ 2047 → field 0x7FD 0 11 = s.cue.latch.localLine) ∧
    wordAt s.snapshotWords 29 = BitVec.ofInt 16 s.cue.latch.lastE ∧
    (s.cue.latch.seqCount ≤ 255 → field 0x7FF 8 8 = s.cue.latch.seqCount) ∧
    ((∀ i, s.cue.latch.origin = .entry i → i ≤ 39) → field 0x7FF 0 6 = (match s.cue.latch.origin with
      | .entry i => i
      | .pulse => 63)) ∧
    (field 0x7E4 15 1, field 0x7E4 7 1, field 0x7E9 14 2, field 0x7EA 11 5, field 0x7ED 14 2, field 0x7F1 3 5) =
      (0, 0, 0, 0, 0, 0) ∧
    (field 0x7F6 14 2, field 0x7F6 10 2, field 0x7FC 13 2, field 0x7FD 11 5, field 0x7FF 6 2) = (0, 0, 0, 0, 0)

/-! ### Keying -/

/-- DISPLAY_FETCH: the cycle passes unchanged, whatever its address and direction, and in a read the controller receives
DRAM's word, while BRESET# is held as well; in a cycle of write direction the word judged is the one written, and nothing is
received (the model's inference, log 42). With the fetch count at k below 1023 the word holds columns 4k - f0 to
4k - f0 + 3, most significant index first; a column below 0 or past is empty, the others are decided; the record joins the
delay line unless it is empty or 24 are held, and the count goes up. At 1023 nothing more happens (R112, R119, R159, R171; "past" includes the dot in progress, log 22). -/
def Obligations.DisplayFetch : Prop :=
  ∀ (a : Addr) (w : FetchWord) (s : State), s.Ready →
    let u : State := { s with bus :=
      if w.write then { s.bus with toDram := some (.fetchWrite a w.word w.lanes) }
      else { s.bus with toDram := some (.fetch a w.lanes), readData := w.word } }
    let first : Int := 4 * (s.keyer.fetchCount : Int) - s.keyer.origin
    let past (c : Int) : Prop :=
      s.keyer.span = .pastWrap ∨ (s.keyer.span = .begun ∧ c + s.keyer.colZero ≤ s.raster.dot)
    let cell (i : Nat) : Option KeyCell :=
      if first + i < 0 ∨ past (first + i) then none
      else some (s.decidePixel (first + i).toNat (w.word.toNat / 16 ^ (3 - i) % 16))
    (1023 ≤ s.keyer.fetchCount → exec (.displayFetch a w) s = .next u.drive) ∧
    (s.keyer.fetchCount < 1023 → exec (.displayFetch a w) s = .next ({ u with keyer := { s.keyer with
      fetchCount := s.keyer.fetchCount + 1
      delay :=
        if (cell 0 = none ∧ cell 1 = none ∧ cell 2 = none ∧ cell 3 = none) ∨ 24 ≤ s.keyer.delay.length
        then s.keyer.delay
        else s.keyer.delay ++ [{ first := first, cells := #v[cell 0, cell 1, cell 2, cell 3] }] } } : State).drive)

/-- The decision for a pixel: the first enabled window of the live active set that contains it decides, by its mode, at
its fixed level or its ramp's present one; where none does, the background rule (R93, R101, R115, R116, R117). -/
def Obligations.PixelDecision : Prop :=
  ∀ (col index : Nat) (s : State),
    let has (w : Window) : Prop :=
      w.enabled = true ∧ w.top ≤ s.keyer.keyLine ∧ s.keyer.keyLine ≤ w.bottom ∧ w.left ≤ col ∧ col ≤ w.right
    let back : KeyCell := if s.backComputer then { key := true, mix := 15 } else { key := false, mix := 0 }
    (s.title.active = none → s.decidePixel col index = back) ∧
    (∀ i, s.title.active = some i →
      ((∀ j : Fin 6, ¬ has s.title.sets[i].windows[j]) → s.decidePixel col index = back) ∧
      (∀ j : Fin 6, has s.title.sets[i].windows[j] → (∀ k : Fin 6, k < j → ¬ has s.title.sets[i].windows[k]) →
        let w := s.title.sets[i].windows[j]
        let level := match w.source with
          | .fixed => w.level
          | .ramp r => s.keyer.ramps[r].level
        s.decidePixel col index =
          if w.mode = .opaqueMode ∨ (w.mode = .indexKey ∧ index ≠ w.keyIndex) then keyOf level
          else { key := false, mix := 0 }))

/-! ### The raster counter -/

/-- SYNTHESISER_CARRY: a carry at the last dot is the local line start; any other ends its dot, the records whose last
column has been presented leave, and KEY and MIX carry the cell of the new dot (R63, R66, R119, R120). A carry is taken
whenever it is presented (log 5), and past a further wrap nothing is presented and no record leaves (log 22). The samples
of LHS and LVS pass on (R69, log 25), and the marks for the checks of R74 and R75 are the model's (logs 24, 34). -/
def Obligations.CarryEndsDot : Prop :=
  ∀ (now : Time) (s : State), s.Ready →
    (s.raster.lineLen ≤ s.raster.dot + 1 → exec (.synthesiserCarry now) s = exec (.localLineStart now) s) ∧
    (s.raster.dot + 1 < s.raster.lineLen →
      let d := s.raster.dot + 1
      let captured := decide (s.raster.phase = .captured)
      let delay := if s.keyer.span = .begun then
          s.keyer.delay.filter fun r => decide ((s.raster.dot : Int) < r.first + r.lastPlace + s.keyer.colZero)
        else s.keyer.delay
      exec (.synthesiserCarry now) s = .next ({ s.at now with
        raster := { s.raster with
          dot := d
          lhs := { before := s.raster.lhs.here, here := false }
          lvs := { before := s.raster.lvs.here, here := false }
          huntDot := false
          lhsSeen := if d + 2 = s.raster.lineLen then false else s.raster.lhsSeen
          lvsSeen := if d + 8 = s.raster.lineLen then false else s.raster.lvsSeen
          lhsMissed := s.raster.lhsMissed || (decide (d = 3) && captured && !s.raster.lhsSeen)
          lvsMissed := s.raster.lvsMissed || (decide (d = 9) && captured && s.raster.frameLen.isSome &&
            decide (s.raster.line = 0) && !s.raster.lvsSeen) }
        synth := { (s.at now).synth with carryOwed := false }
        keyer := { s.keyer with
          delay := delay
          shown := if s.keyer.span = .begun then shownAt d s.keyer.colZero delay else { key := false, mix := 0 } }
        } : State).drive)

/-- LOCAL_LINE_START: the stamp is taken, the dot counter is 0, the line counter goes on, to 0 with the renumber mark, at
the frame length or past 2047, the last with an unknown length in CAPTURED a raster fault; L_dots and the pending
increment come into use; a seek computation counts it, the cue unit looks at it, and the frame aligner takes it. A LATCH
cue at the line start that ends a slew is taken before or after it (R46, R64, R66, R67, R68, R75, R138; logs 5, 8, 36).
After the raster fault past 2047 the line counter is 0 (log 20); the wrap begins a keying line whose LHS came before it,
and past a further wrap nothing is presented and no record leaves (log 22). The samples of LHS and LVS pass on (R69, logs 25,
34). -/
def Obligations.LocalLineStart : Prop :=
  ∀ (now : Time) (a c : State) (s : State), s.Ready →
    a = (if s.raster.phase = .captured ∧ s.raster.frameLen = none ∧ s.raster.renumber = false ∧ s.raster.line = 2047
      then (s.at now).faulted else s.at now) →
    c = { a with
      raster := { a.raster with
        dot := 0
        line := if s.raster.renumber = true ∨ s.raster.frameLen = some (s.raster.line + 1) ∨ s.raster.line = 2047 then 0
                else s.raster.line + 1
        renumber := false
        lastStart := now
        lineLen := s.setupDots
        lhs := { before := s.raster.lhs.here, here := false }
        lvs := { before := s.raster.lvs.here, here := false }
        huntDot := false
        lhsSeen := if s.raster.dot + 2 < s.raster.lineLen then false else s.raster.lhsSeen
        lvsSeen := if s.raster.dot + 8 < s.raster.lineLen then false else s.raster.lvsSeen }
      synth := { a.synth with applied := s.synth.handed, carryOwed := false }
      loop := { s.loop with seek := { s.loop.seek with
        lineStarts := if s.loop.seek.inFlight then s.loop.seek.lineStarts + 1 else s.loop.seek.lineStarts } }
      keyer := { a.keyer with delay :=
        if s.keyer.span = .begun then
          s.keyer.delay.filter fun r => decide ((s.raster.dot : Int) < r.first + r.lastPlace + s.keyer.colZero)
        else s.keyer.delay } } →
    let parity : Parity := if s.raster.secondField then .field2 else .field1
    let look (x : State) : State := x.look .localLines c.raster.line parity now
    let shown (x : State) : State := { x with keyer := { x.keyer with
      span := if s.keyer.span = .notBegun then .begun else .pastWrap
      shown := if s.keyer.span = .notBegun then shownAt 0 s.keyer.colZero c.keyer.delay else { key := false, mix := 0 } } }
    let tie := s.loop.state = .slew ∧ s.align.choose = 0 ∧
      ∃ e ∈ s.cue.fired .localLines c.raster.line parity, e.1.action = .latch
    (¬ tie → exec (.localLineStart now) s = .next (shown (look c).slewLine).drive) ∧
    (tie → exec (.localLineStart now) s = .next (shown (look { c with choices := s.choices + 1 }).slewLine).drive ∨
      exec (.localLineStart now) s = .next (shown (look ({ c with choices := s.choices + 1 } : State).slewLine)).drive)

/-- LHS_SEEN presents a high LHS: it is sampled where DOTCLK rises, once in a dot, and is seen where the dot before had no
high sample (R63, R69, log 25). An LHS seen that fails its check in CAPTURED, outside -2..+2 or the second of its window,
is a raster fault and is next taken in HUNT, the second one too (log 21); an LVS in the same dot that would fail as well is
then met in HUNT (R75, log 34). HUNT, and ALIGN outside -2..+2, set the dot counter to 0 in its dot, and HUNT becomes ALIGN;
the window of that dot 0 has then seen its LHS (log 37). A new keying line begins at the keyer, for the line counter as it
stands or, at an offset below 0, as it will be (R70, R71, R74, R76, R111). LHS_WINDOW_CLOSE in dot 2 or after it in CAPTURED
with no LHS seen, and LINE_ZERO_LVS_TIMEOUT in or after dot 8 of line 0 of a known frame with no line-start LVS seen, are
raster faults, and else do nothing but clear their mark (R74, R75; log 24). -/
def Obligations.LhsAndTheRasterChecks : Prop :=
  ∀ s : State, s.Unowed →
    let r := s.raster
    let rises : Prop := 8388608 ≤ s.synth.acc.toNat ∧ s.synth.acc.toNat < 8388608 + s.synth.applied
    let off : Int := if r.dot ≤ r.lineLen / 2 then r.dot else (r.dot : Int) - r.lineLen
    let line : Nat := if 0 ≤ off then r.line else if r.frameLen = some (r.line + 1) then 0 else r.line + 1
    let lvsFails : Prop := off.natAbs ≤ 8 ∧ (r.frameLen = none ∧ line = 0 ∨ r.frameLen ≠ none ∧ line ≠ 0)
    let x : State := { s with raster := { r with lhs := { r.lhs with here := true } } }
    let a : State :=
      if r.phase = .captured ∧ (2 < off.natAbs ∨ r.lhsSeen = true) then
        { x.faulted with raster := { x.faulted.raster with huntDot := decide lvsFails } }
      else x
    let sets : Prop := a.raster.phase = .hunt ∨ (a.raster.phase = .align ∧ 2 < off.natAbs)
    let begun : Prop := sets ∨ 0 ≤ off
    let next : Nat :=
      if a.raster.renumber = true ∨ a.raster.frameLen = some (r.line + 1) ∨ r.line = 2047 then 0 else r.line + 1
    (¬ rises ∨ r.lhs.here = true → exec .lhsSeen s = .next s.drive) ∧
    (rises → r.lhs.here = false → r.lhs.before = true → exec .lhsSeen s = .next x.drive) ∧
    (rises → r.lhs.here = false → r.lhs.before = false → exec .lhsSeen s = .next ({ a with
      raster := { a.raster with
        dot := if sets then 0 else r.dot
        lhsSeen := true
        phase := if a.raster.phase = .hunt then .align else a.raster.phase }
      keyer := { a.keyer with
        fetchCount := 0, delay := [], origin := s.setupOrigin, colZero := s.setupColZero
        keyLine := if begun then r.line else next
        span := if begun then .begun else .notBegun } } : State).drive) ∧
    exec .lhsWindowClose s = .next
      (if (r.lhsMissed = true ∨ r.dot = 2) ∧ r.phase = .captured ∧ r.lhsSeen = false then s.faulted
       else { s with raster := { r with lhsMissed := false } }).drive ∧
    exec .lineZeroLvsTimeout s = .next
      (if (r.lvsMissed = true ∨ r.dot = 8) ∧ r.phase = .captured ∧ r.frameLen ≠ none ∧ r.line = 0 ∧ r.lvsSeen = false
       then s.faulted
       else { s with raster := { r with lvsMissed := false } }).drive

/-- What the raster counter makes of an LVS: the parity, 1 at an offset within -8..+8 and else 2; a line-start LVS in
ALIGN captures the raster with an unknown length; in CAPTURED one ends the first frame, whose length is the line it
begins, or must begin line 0, and is else a raster fault; FRAME MISMATCH, bit 14, is evaluated (R71, R72, R73, R75,
R77, R173). One that is the second failure of its dot sets the parity only, as in HUNT (R75, log 34). -/
def Obligations.LvsCapturesAndMeasures : Prop :=
  ∀ (s : State) (v : Nat),
    let r := s.raster
    let off : Int := if r.dot ≤ r.lineLen / 2 then r.dot else (r.dot : Int) - r.lineLen
    let odd : State := { s with raster := { r with secondField := false } }
    v = (if 0 ≤ off then r.line else if r.frameLen = some (r.line + 1) then 0 else r.line + 1) →
    let renumbered : State := { odd with raster := { odd.raster with
      line := if 0 ≤ off then 0 else r.line
      renumber := if 0 ≤ off then r.renumber else true
      lvsSeen := true
      phase := .captured } }
    let judged (x : State) (length : Option Nat) : State := { x with
      raster := { x.raster with frameLen := length }
      att := { s.att with
        causes := if s.att.mismatch = false ∧ length ≠ some s.frameLines then s.att.causes ||| 0x4000 else s.att.causes
        mismatch := decide (length ≠ some s.frameLines) } }
    (8 < off.natAbs → s.takeLvs = { s with raster := { r with secondField := true } }) ∧
    (off.natAbs ≤ 8 → (r.huntDot = true ∨ r.phase = .hunt) → s.takeLvs = odd) ∧
    (off.natAbs ≤ 8 → r.huntDot = false →
      (r.phase = .align → s.takeLvs = judged renumbered none) ∧
      (r.phase = .captured →
        (r.frameLen = none → v ≠ 0 → s.takeLvs = judged renumbered (some v)) ∧
        (r.frameLen ≠ none → v = 0 → s.takeLvs = { odd with raster := { odd.raster with lvsSeen := true } }) ∧
        ((r.frameLen = none ∧ v = 0) ∨ (r.frameLen ≠ none ∧ v ≠ 0) → s.takeLvs = odd.faulted)))

/-- LOCAL_FIELD_START presents a high LVS: it is sampled where DOTCLK rises, once in a dot, and is seen where the dot before
had no high sample (R63, R69, log 25). Beyond the raster counter, an LVS seen acts so: with an adoption asked for,
the live image and cue table are the decoded pending ones and unstarted ramp units take their power-on level; the dwell
of a FIELDS set goes down, DWELL_EXPIRED being owed at 0 (log 6); each moving ramp steps, with RAMP DONE, bit 15, at its
target; and the field counter steps, with COUNT SATURATED, bit 9, at 65,535 (R98, R99, R102, R125, R130, R136, R149). -/
def Obligations.LocalFieldStart : Prop :=
  ∀ (x u : State) (s : State), s.Unowed →
    x = { s with raster := { s.raster with lvs := { s.raster.lvs with here := true } } } → u = x.takeLvs →
    let rises : Prop := 8388608 ≤ s.synth.acc.toNat ∧ s.synth.acc.toNat < 8388608 + s.synth.applied
    (¬ rises ∨ s.raster.lvs.here = true → exec .localFieldStart s = .next s.drive) ∧
    (rises → s.raster.lvs.here = false → s.raster.lvs.before = true →
      exec .localFieldStart s = .next x.drive) ∧
    (rises → s.raster.lvs.here = false → s.raster.lvs.before = false →
    ∃ t : State, exec .localFieldStart s = .next t.drive ∧
      t = { u with
        title := t.title, cue := t.cue
        keyer := { u.keyer with ramps := t.keyer.ramps }
        att := { u.att with causes := t.att.causes } } ∧
      (t.title.pendingSets, t.title.pendingRamps, t.title.active, t.title.adoptRequest) =
        (s.title.pendingSets, s.title.pendingRamps, s.title.active, false) ∧
      (∀ i : Fin 4, t.title.sets[i] =
        if s.title.adoptRequest then decodeSet s.title.pendingSets (64 * i.val) else s.title.sets[i]) ∧
      (∀ i : Fin 4, t.title.ramps[i] =
        if s.title.adoptRequest then decodeRamp s.title.pendingRamps (2 * i.val) else s.title.ramps[i]) ∧
      (t.title.remaining, t.title.dwellOwed) =
        (match s.title.active with
        | none => (s.title.remaining, false)
        | some i =>
          if t.title.sets[i].mode = .fields then (s.title.remaining - 1, decide (s.title.remaining ≤ 1))
          else (s.title.remaining, false)) ∧
      (∀ i : Fin 4,
        let r := s.keyer.ramps[i]
        t.keyer.ramps[i] =
          if s.title.adoptRequest = true ∧ r.unstarted = true then
            ({ level := t.title.ramps[i].level, target := t.title.ramps[i].level, rate := r.rate, moving := false,
               unstarted := false } : Ramp)
          else if r.moving = false then r
          else if ((r.level : Int) - r.target).natAbs ≤ r.rate then { r with level := r.target, moving := false }
          else { r with level := if r.level < r.target then r.level + r.rate else r.level - r.rate }) ∧
      t.cue = { s.cue with
        count := if s.title.adoptRequest then min 40 (numAt s.cue.pendingTable 0) else s.cue.count
        entries := t.cue.entries
        counter :=
          if s.ringMode then (if s.modulus ≤ s.cue.counter + 1 then 0 else s.cue.counter + 1)
          else min 65535 (s.cue.counter + 1)
        saturated := decide (s.ringMode = false ∧ 65534 ≤ s.cue.counter) } ∧
      (∀ i : Fin 40, t.cue.entries[i] =
        if s.title.adoptRequest then decodeCue s.cue.pendingTable i.val else s.cue.entries[i]) ∧
      t.att.causes = u.att.causes |||
        (if ∃ i : Fin 4, s.keyer.ramps[i].moving = true ∧ t.keyer.ramps[i].moving = false ∧
            ¬ (s.title.adoptRequest = true ∧ s.keyer.ramps[i].unstarted = true) then 0x8000 else 0) |||
        (if s.ringMode = false ∧ s.cue.counter = 65534 then 0x0200 else 0))

/-- The live values of an adoption: a code that names nothing is OPAQUE, FIXED, HOLD or NONE, LOCAL, ANY or ATTEND, and a
value above its range is the top of the range, a dwell or a default rate of 0 being 1 (R95, R136, 11.2 to 11.4). And the
settings as the rules use them: each value is brought into its range, G_w is at least G_n and I_max at least I_min, V_off
at most N - 1 and a modulus at least 1, and a code that names no setting is 625 lines, PROGRAMME or LINEAR (R2, R49, R50,
R80, R114, R150, R153, R154, R181). -/
def Obligations.AdoptedValues : Prop :=
  ∀ (p : Vector Word 256) (q : Vector Word 8) (c : Vector Word 164),
    (∀ i : Nat, let w := decodeSet p i
      (w.next.map Fin.val = if numAt p i < 4 then some (numAt p i) else none) ∧
      w.mode = (if numAt p (i + 1) = 0 then .fields else if numAt p (i + 1) = 1 then .cue else .hold) ∧
      w.dwell = (if numAt p (i + 2) = 0 then 1 else numAt p (i + 2)) ∧
      ∀ j : Fin 6, w.windows[j] = decodeWindow p (i + 8 + 8 * j.val)) ∧
    (∀ i : Nat, let w := decodeWindow p i
      let code := numAt p i / 256 % 8
      w.enabled = decide (32768 ≤ numAt p i) ∧
      w.mode = (if code = 1 then .indexKey else if code = 2 then .matte else .opaqueMode) ∧
      w.keyIndex = min 15 (numAt p i % 256) ∧
      (w.top, w.bottom, w.left, w.right) =
        (min 1023 (numAt p (i + 1)), min 1023 (numAt p (i + 2)), min 1023 (numAt p (i + 3)), min 1023 (numAt p (i + 4))) ∧
      (match w.source with
        | .ramp r => r.val = numAt p i / 4096 % 8
        | .fixed => 4 ≤ numAt p i / 4096 % 8) ∧
      w.level = min 255 (numAt p (i + 5))) ∧
    (∀ i : Nat, (decodeRamp q i).rate = (if numAt q i = 0 then 1 else min 255 (numAt q i)) ∧
      (decodeRamp q i).level = min 255 (numAt q (i + 1))) ∧
    (∀ i : Nat, let e := decodeCue c i
      let w := numAt c (5 + 4 * i)
      e.enabled = decide (32768 ≤ w) ∧ e.line = min 1023 (numAt c (4 + 4 * i)) ∧
      e.target = (if w / 16384 % 2 = 1 then some (numAt c (6 + 4 * i)) else none) ∧
      e.domain = (if w / 4096 % 4 = 1 then .broadcast else .localLines) ∧
      e.parity = (if w / 1024 % 4 = 1 then .field1 else if w / 1024 % 4 = 2 then .field2 else .any) ∧
      e.action = ([.attend, .fade, .cut, .showSet, .stopSet, .latch, .holdKey, .freeKey][w % 16]?).getD .attend ∧
      e.arg = wordAt c (7 + 4 * i)) ∧
    ∀ s : State,
      let w (i : Nat) : Nat := numAt s.setup.loop i
      let x (i : Nat) : Nat := numAt s.setup.aux i
      let within (lo hi v : Nat) : Nat := if v < lo then lo else if hi < v then hi else v
      s.frameLines = (if w 0 = 1 then 525 else 625) ∧ s.setupDots = within 64 2047 (w 1) ∧
      s.iMin = within 1048576 8388607 (w 3 * 65536 + w 2) ∧
      s.iMax = max s.iMin (within 1048576 8388607 (w 5 * 65536 + w 4)) ∧
      (s.pLo, s.pHi, s.fFall, s.fRise, s.wEq, s.wBroad) = (w 6, w 7, min 63 (w 8), min 63 (w 9), w 10, w 11) ∧
      s.gN = within 1 255 (w 12) ∧ s.gW = max s.gN (min 1023 (w 13)) ∧
      (s.gpPull, s.giPull, s.gpLock, s.giLock) = (min 4095 (w 14), min 255 (w 15), min 4095 (w 16), min 255 (w 17)) ∧
      (s.tLock, s.nLock, s.tUnlock, s.nUnlock) =
        (min 1023 (w 18), within 4 255 (w 19), min 1023 (w 20), within 1 255 (w 21)) ∧
      (s.mCoast, s.rReturn, s.hHold, s.jRephase, s.hOff) =
        (within 2 63 (w 22), within 1 15 (w 23), within 1 4095 (w 24), within 2 15 (w 25), min 4095 (w 26)) ∧
      (s.vOff, s.slewStep, s.slewLimit) =
        (min (s.frameLines - 1) (w 27), within 1 64 (w 28), within 1 256 (w 29)) ∧
      (s.setupOrigin, s.setupColZero, s.backComputer, s.cueWidth) =
        (min 255 (x 0), min 2047 (x 1), decide (x 2 = 1), min 255 (x 8)) ∧
      (s.useReset, s.useAdvance, s.useLatch) =
        (decide (x 9 % 2 = 1), decide (x 9 / 2 % 2 = 1), decide (x 9 / 4 % 2 = 1)) ∧
      (s.ringMode, s.modulus) = (decide (x 10 = 1), within 1 50000 (x 11))

/-! ### Cues -/

/-- CUE_PULSE and CUE_FALL_ACCEPTED: a run of the CUE filter width makes the change accepted; on the tick at which a new width
was taken during the run, the width before it judges, which is the model's inference from R153 (log 38). A rise is a CUE pulse, timed with the run's start, and acts on the
CUE uses: RESET COUNT, ADVANCE CHAIN for a set in CUE mode, TAKE LATCH. A fall does nothing more. Before the width is
reached only the instant moves on (R104, R153, R154, R155). -/
def Obligations.CueInput : Prop :=
  ∀ (now t0 : Time) (s : State), s.Ready →
    let on (l : Level) : CueUnit := { s.cue with filter := { accepted := l, run := none } }
    let width : Nat := match s.cue.filter.hold with
      | some (t, w) => if t = now then w else s.cueWidth
      | none => s.cueWidth
    let late : Prop := s.cue.filter.run = none ∨ (s.cue.filter.run = some t0 ∧ (now - t0).toInt < width)
    ((s.cue.filter.accepted = .high ∨ late) → exec (.cuePulse now) s = .next (s.at now).drive) ∧
    ((s.cue.filter.accepted = .low ∨ late) → exec (.cueFallAccepted now) s = .next (s.at now).drive) ∧
    (s.cue.filter.run = some t0 → (width : Int) ≤ (now - t0).toInt →
      (s.cue.filter.accepted = .high →
        exec (.cueFallAccepted now) s = .next ({ s.at now with cue := on .low } : State).drive) ∧
      (s.cue.filter.accepted = .low →
        let u : State := { s.at now with cue := { on .high with
          counter := if s.useReset then 0 else s.cue.counter
          saturated := if s.useReset then false else s.cue.saturated
          latch :=
            if s.useLatch then
              { origin := .pulse, time := t0, line := s.front.line, lineValid := s.front.lineValid,
                localLine := s.raster.line, loopState := s.loop.state, lastE := s.loop.lastE,
                seqCount := (s.cue.latch.seqCount + 1) % 256 }
            else s.cue.latch } }
        exec (.cuePulse now) s = .next
          (match s.title.active with
          | none => u
          | some i =>
            if s.useAdvance = true ∧ s.title.sets[i].mode = DwellMode.cue then
              match s.title.sets[i].next with
              | some j => { u with title := { s.title with active := some j, remaining := s.title.sets[j].dwell } }
              | none => ({ u with title := { s.title with active := none, remaining := 0 } } : State).withCauses 0x0080
            else u).drive))

/-- A look of the cue unit at a line start: the live entries of the domain that are enabled and match its line, parity
and field target fire, decided as the look begins and taken in table order, each with its own action (R140, R141, R144
to R148, R155). -/
def Obligations.CueLook : Prop :=
  ∀ (d : Domain) (line : Nat) (p : Parity) (t : Time) (s : State),
    s.look d line p t = (s.cue.fired d line p).foldl (State.fire t) s ∧
    ((s.cue.fired d line p).map Prod.snd).Pairwise (· < ·) ∧
    (∀ (c : Cue) (i : Nat), (c, i) ∈ s.cue.fired d line p ↔
      i < s.cue.count ∧ s.cue.entries[i]? = some c ∧ c.enabled = true ∧ c.domain = d ∧ c.line = line ∧
        (c.parity = .any ∨ (c.parity = .field1 ∧ p = .field1) ∨ (c.parity = .field2 ∧ p = .field2)) ∧
        (c.target = none ∨ (c.target = some s.cue.counter ∧ s.cue.saturated = false))) ∧
    ∀ (c : Cue) (i : Nat) (n : Fin 4) (rate level : Nat),
      n.val = c.arg.toNat / 16384 → rate = c.arg.toNat / 256 % 64 → level = c.arg.toNat % 256 →
      let unit (r : Ramp) : State := { s with keyer := { s.keyer with ramps := s.keyer.ramps.set n r } }
      s.fire t (c, i) = match c.action with
        | .attend => ({ s with cue := { s.cue with lastCue := some i } } : State).withCauses 0x0100
        | .fade =>
          (unit { level := s.keyer.ramps[n].level, target := level
                  rate := if rate = 0 then s.title.ramps[n].rate else rate
                  moving := decide (level ≠ s.keyer.ramps[n].level), unstarted := false }).withCauses
            (if level = s.keyer.ramps[n].level then 0x8000 else 0)
        | .cut =>
          unit { level := level, target := level, rate := s.keyer.ramps[n].rate, moving := false, unstarted := false }
        | .showSet => { s with title := { s.title with
            active := some n, remaining := s.title.sets[n].dwell, dwellOwed := false } }
        | .stopSet => { s with title := { s.title with active := none, remaining := 0, dwellOwed := false } }
        | .latch => { s with cue := { s.cue with latch :=
            { origin := .entry i, time := t, line := s.front.line, lineValid := s.front.lineValid,
              localLine := s.raster.line, loopState := s.loop.state, lastE := s.loop.lastE,
              seqCount := (s.cue.latch.seqCount + 1) % 256 } } }
        | .holdKey => { s with keyer := { s.keyer with cueHold := true } }
        | .freeKey => { s with keyer := { s.keyer with cueHold := false } }
/-! ### Invariants of every step, and what only some rows change -/

/-- Every step keeps the bounds of the four queues and of the live cue table: 4 pulses, 8 commands, 24 key records, 40
cues, and fewer candidates than any J_rephase can be above (R7, R165, R119, R42, R136). -/
def Obligations.QueuesStayBounded : Prop :=
  ∀ s t : State, s.QueuesBounded → step s = .next t → t.QueuesBounded

/-- Every step keeps the numbering of broadcast lines: the prediction is valid in every loop state but OFF and SEEK, the
line counter is within 1..N while valid, 0 while not, and never valid without a prediction (R15, R21, R12, R13); the open
lines of a valid prediction are numbered in order, the last is the one next to close and every line before it is closed,
and without a prediction there are none (R21, R28, R33); and a seek computation is in flight in SEEK only (R26, R45, R47). -/
def Obligations.LinesStayNumbered : Prop :=
  ∀ s t : State, s.LinesNumbered → step s = .next t → t.LinesNumbered

/-- Every step keeps F and I within I_min..I_max, the two increments of the synthesiser within 1,048,576..8,388,607, and a
slew able to stop: its level within 0..M and its distance D not less than the run-down from that level (R21, R49, R59, R63,
R83, R84, R86). -/
def Obligations.RatesStayInRange : Prop :=
  ∀ s t : State, step s = .next t →
    (s.RatesInRange → t.RatesInRange) ∧ (s.SlewCanStop → t.SlewCanStop)

/-- Every step keeps the raster counter, the field counter, the ramp units with the live ramp records, and the title chain
within their ranges (section 4.2, R66, R67, R149, section 7.1, R125, R93, R101). -/
def Obligations.CountersStayInRange : Prop :=
  ∀ s t : State, step s = .next t →
    (s.RasterInRange → t.RasterInRange) ∧ (s.CounterInRange → t.CounterInRange) ∧
    (s.RampsInRange → t.RampsInRange) ∧ (s.ChainInRange → t.ChainInRange)

/-- Every step keeps the pins true: ATTN# is low exactly while some cause is both pending and enabled; KEY and MIX carry the
cell of the dot in progress, or 0 while any key restriction source is in force, which they follow at once within the dot
(R175, R120, R121, R124, log 23); and DOTCLK is high exactly while the accumulator holds 2^23 or more (R63, log 31). -/
def Obligations.PinsShowTheState : Prop :=
  ∀ s t : State, s.PinsTrue → step s = .next t → t.PinsTrue

/-- The state after reset, and the state any POWER_RESET gives, meet every invariant. -/
def Obligations.ResetMeetsTheInvariants : Prop :=
  ∀ (base : BitVec 4) (dclk : BitVec 2) (std : Standard) (csync cue : Level) (held breset : Bool) (n : Nat)
    (q : List Instr) (s : State),
    (s = State.reset ∨ s = State.powerReset base dclk std csync cue held breset n q) →
    s.QueuesBounded ∧ s.LinesNumbered ∧ s.RatesInRange ∧ s.SlewCanStop ∧ s.RasterInRange ∧ s.CounterInRange ∧
      s.RampsInRange ∧ s.ChainInRange ∧ s.PinsTrue

/-- The changes of loop state: with no step owed, no command delivered before the row and a seek computation in flight in SEEK
only, as every step keeps it (LinesStayNumbered), a row that leaves the loop in
another state is one of the transitions of section 2.9, from the state and by the step given there (R21 to R25, R36 to R41,
R44, R47, R83, R87, R88). -/
def Obligations.LoopTransitions : Prop :=
  ∀ (c : Instr) (s t : State), s.Unowed →
    (s.headWaits = true ∨ (∃ k rest, s.bus.queue = k :: rest ∧ c = k.row) ∨
      (c.servesFirst s.timebase = false ∧ ∀ k : Command, c ≠ k.row)) →
    (s.loop.seek.inFlight = true → s.loop.state = .seek) →
    (∀ b d st, c ≠ .powerReset b d st) → exec c s = .next t → t.loop.state ≠ s.loop.state →
    (s.loop.state, t.loop.state) ∈
      (match c with
      | .engage .. => [(.off, .seek)]
      | .release .. => [(.seek, .off), (.pull, .off), (.locked, .off), (.coast, .off), (.frozen, .off)]
      | .freeze .. => [(.pull, .frozen), (.locked, .frozen), (.coast, .frozen)]
      | .resume .. => [(.frozen, .coast)]
      | .seekComplete => [(.seek, .pull)]
      | .recordTaken => [(.pull, .locked), (.locked, .pull), (.coast, .pull)]
      | .lineSettle _ => [(.pull, .coast), (.locked, .coast)]
      | .acceptedRise _ => [(.locked, .slew)]
      | .pulseSaturation _ => [(.locked, .slew)]
      | .localLineStart _ => [(.slew, .pull), (.slew, .coast), (.slew, .off)]
      | .synthesiserCarry _ => [(.slew, .pull), (.slew, .coast), (.slew, .off)]
      | _ => [] : List (LoopState × LoopState))

/-- A cause, once pending, stays pending through every row but ACK and the two resets, with no ACK in the queue, whatever
else happens (R172, R174, R176). -/
def Obligations.CausesStay : Prop :=
  ∀ (c : Instr) (n : Nat) (s t : State), (∀ k ∈ s.bus.queue, k.code ≠ 0x40) → (∀ small arg, c ≠ .ack small arg) → c ≠ .busReset →
    (∀ b d st, c ≠ .powerReset b d st) → exec c s = .next t → s.att.causes.getLsbD n = true →
    t.att.causes.getLsbD n = true

/-- The live image is written by nothing but adoption at a local field start and the two resets (R98, R99, R108, R136), and
the structural setup words by nothing but a CPU write, while the loop is OFF, and power reset (R48). -/
def Obligations.WhatOnlyAdoptionAndOffChange : Prop :=
  ∀ (c : Instr) (s t : State), (∀ b d st, c ≠ .powerReset b d st) → exec c s = .next t →
    (c ≠ .busReset → c ≠ .localFieldStart →
      (t.title.sets, t.title.ramps, t.cue.entries, t.cue.count) =
        (s.title.sets, s.title.ramps, s.cue.entries, s.cue.count)) ∧
    (c = .localFieldStart → s.title.adoptRequest = false →
      (t.title.sets, t.title.ramps, t.cue.entries, t.cue.count) =
        (s.title.sets, s.title.ramps, s.cue.entries, s.cue.count)) ∧
    ((∀ a w l, c ≠ .capturedWrite a w l ∧ c ≠ .structuralSetupWrite a w l ∧ c ≠ .fieldCounterModeWrite a w l ∧
        c ≠ .enableMaskWrite a w l) →
      ∀ i : Fin 12, wordAt t.setup.loop i.val = wordAt s.setup.loop i.val) ∧
    (s.Ready → s.loop.state ≠ .off → ∀ i : Fin 12, wordAt t.setup.loop i.val = wordAt s.setup.loop i.val)
end
end

