-- ==== Sys2Proof/Laws/State.lean ====
section
/-! SUPPORT. One lemma per field per update of State: the field an update writes, and every field it leaves. -/

namespace Sys2Proof.Machine.State

variable (s : State)

/-! ### atTime -/

section

variable (t : Time)

@[simp] theorem atTime_timebase : (s.atTime t).timebase = t := rfl
@[simp] theorem atTime_rawCsync : (s.atTime t).rawCsync = s.rawCsync := rfl
@[simp] theorem atTime_rawCue : (s.atTime t).rawCue = s.rawCue := rfl
@[simp] theorem atTime_resetHeld : (s.atTime t).resetHeld = s.resetHeld := rfl
@[simp] theorem atTime_bresetHeld : (s.atTime t).bresetHeld = s.bresetHeld := rfl
@[simp] theorem atTime_setup : (s.atTime t).setup = s.setup := rfl
@[simp] theorem atTime_front : (s.atTime t).front = s.front := rfl
@[simp] theorem atTime_loop : (s.atTime t).loop = s.loop := rfl
@[simp] theorem atTime_align : (s.atTime t).align = s.align := rfl
@[simp] theorem atTime_synth : (s.atTime t).synth = s.synth := rfl
@[simp] theorem atTime_raster : (s.atTime t).raster = s.raster := rfl
@[simp] theorem atTime_title : (s.atTime t).title = s.title := rfl
@[simp] theorem atTime_keyer : (s.atTime t).keyer = s.keyer := rfl
@[simp] theorem atTime_cue : (s.atTime t).cue = s.cue := rfl
@[simp] theorem atTime_bus : (s.atTime t).bus = s.bus := rfl
@[simp] theorem atTime_att : (s.atTime t).att = s.att := rfl
@[simp] theorem atTime_pins : (s.atTime t).pins = s.pins := rfl
@[simp] theorem atTime_choices : (s.atTime t).choices = s.choices := rfl
@[simp] theorem atTime_pending : (s.atTime t).pending = s.pending := rfl

end

/-! ### onSetup -/

section

variable (f : Setup → Setup)

@[simp] theorem onSetup_timebase : (s.onSetup f).timebase = s.timebase := rfl
@[simp] theorem onSetup_rawCsync : (s.onSetup f).rawCsync = s.rawCsync := rfl
@[simp] theorem onSetup_rawCue : (s.onSetup f).rawCue = s.rawCue := rfl
@[simp] theorem onSetup_resetHeld : (s.onSetup f).resetHeld = s.resetHeld := rfl
@[simp] theorem onSetup_bresetHeld : (s.onSetup f).bresetHeld = s.bresetHeld := rfl
@[simp] theorem onSetup_setup : (s.onSetup f).setup = f s.setup := rfl
@[simp] theorem onSetup_front : (s.onSetup f).front = s.front := rfl
@[simp] theorem onSetup_loop : (s.onSetup f).loop = s.loop := rfl
@[simp] theorem onSetup_align : (s.onSetup f).align = s.align := rfl
@[simp] theorem onSetup_synth : (s.onSetup f).synth = s.synth := rfl
@[simp] theorem onSetup_raster : (s.onSetup f).raster = s.raster := rfl
@[simp] theorem onSetup_title : (s.onSetup f).title = s.title := rfl
@[simp] theorem onSetup_keyer : (s.onSetup f).keyer = s.keyer := rfl
@[simp] theorem onSetup_cue : (s.onSetup f).cue = s.cue := rfl
@[simp] theorem onSetup_bus : (s.onSetup f).bus = s.bus := rfl
@[simp] theorem onSetup_att : (s.onSetup f).att = s.att := rfl
@[simp] theorem onSetup_pins : (s.onSetup f).pins = s.pins := rfl
@[simp] theorem onSetup_choices : (s.onSetup f).choices = s.choices := rfl
@[simp] theorem onSetup_pending : (s.onSetup f).pending = s.pending := rfl

end

/-! ### onFront -/

section

variable (f : FrontEnd → FrontEnd)

@[simp] theorem onFront_timebase : (s.onFront f).timebase = s.timebase := rfl
@[simp] theorem onFront_rawCsync : (s.onFront f).rawCsync = s.rawCsync := rfl
@[simp] theorem onFront_rawCue : (s.onFront f).rawCue = s.rawCue := rfl
@[simp] theorem onFront_resetHeld : (s.onFront f).resetHeld = s.resetHeld := rfl
@[simp] theorem onFront_bresetHeld : (s.onFront f).bresetHeld = s.bresetHeld := rfl
@[simp] theorem onFront_setup : (s.onFront f).setup = s.setup := rfl
@[simp] theorem onFront_front : (s.onFront f).front = f s.front := rfl
@[simp] theorem onFront_loop : (s.onFront f).loop = s.loop := rfl
@[simp] theorem onFront_align : (s.onFront f).align = s.align := rfl
@[simp] theorem onFront_synth : (s.onFront f).synth = s.synth := rfl
@[simp] theorem onFront_raster : (s.onFront f).raster = s.raster := rfl
@[simp] theorem onFront_title : (s.onFront f).title = s.title := rfl
@[simp] theorem onFront_keyer : (s.onFront f).keyer = s.keyer := rfl
@[simp] theorem onFront_cue : (s.onFront f).cue = s.cue := rfl
@[simp] theorem onFront_bus : (s.onFront f).bus = s.bus := rfl
@[simp] theorem onFront_att : (s.onFront f).att = s.att := rfl
@[simp] theorem onFront_pins : (s.onFront f).pins = s.pins := rfl
@[simp] theorem onFront_choices : (s.onFront f).choices = s.choices := rfl
@[simp] theorem onFront_pending : (s.onFront f).pending = s.pending := rfl

end

/-! ### onLoop -/

section

variable (f : Loop → Loop)

@[simp] theorem onLoop_timebase : (s.onLoop f).timebase = s.timebase := rfl
@[simp] theorem onLoop_rawCsync : (s.onLoop f).rawCsync = s.rawCsync := rfl
@[simp] theorem onLoop_rawCue : (s.onLoop f).rawCue = s.rawCue := rfl
@[simp] theorem onLoop_resetHeld : (s.onLoop f).resetHeld = s.resetHeld := rfl
@[simp] theorem onLoop_bresetHeld : (s.onLoop f).bresetHeld = s.bresetHeld := rfl
@[simp] theorem onLoop_setup : (s.onLoop f).setup = s.setup := rfl
@[simp] theorem onLoop_front : (s.onLoop f).front = s.front := rfl
@[simp] theorem onLoop_loop : (s.onLoop f).loop = f s.loop := rfl
@[simp] theorem onLoop_align : (s.onLoop f).align = s.align := rfl
@[simp] theorem onLoop_synth : (s.onLoop f).synth = s.synth := rfl
@[simp] theorem onLoop_raster : (s.onLoop f).raster = s.raster := rfl
@[simp] theorem onLoop_title : (s.onLoop f).title = s.title := rfl
@[simp] theorem onLoop_keyer : (s.onLoop f).keyer = s.keyer := rfl
@[simp] theorem onLoop_cue : (s.onLoop f).cue = s.cue := rfl
@[simp] theorem onLoop_bus : (s.onLoop f).bus = s.bus := rfl
@[simp] theorem onLoop_att : (s.onLoop f).att = s.att := rfl
@[simp] theorem onLoop_pins : (s.onLoop f).pins = s.pins := rfl
@[simp] theorem onLoop_choices : (s.onLoop f).choices = s.choices := rfl
@[simp] theorem onLoop_pending : (s.onLoop f).pending = s.pending := rfl

end

/-! ### onAlign -/

section

variable (f : Aligner → Aligner)

@[simp] theorem onAlign_timebase : (s.onAlign f).timebase = s.timebase := rfl
@[simp] theorem onAlign_rawCsync : (s.onAlign f).rawCsync = s.rawCsync := rfl
@[simp] theorem onAlign_rawCue : (s.onAlign f).rawCue = s.rawCue := rfl
@[simp] theorem onAlign_resetHeld : (s.onAlign f).resetHeld = s.resetHeld := rfl
@[simp] theorem onAlign_bresetHeld : (s.onAlign f).bresetHeld = s.bresetHeld := rfl
@[simp] theorem onAlign_setup : (s.onAlign f).setup = s.setup := rfl
@[simp] theorem onAlign_front : (s.onAlign f).front = s.front := rfl
@[simp] theorem onAlign_loop : (s.onAlign f).loop = s.loop := rfl
@[simp] theorem onAlign_align : (s.onAlign f).align = f s.align := rfl
@[simp] theorem onAlign_synth : (s.onAlign f).synth = s.synth := rfl
@[simp] theorem onAlign_raster : (s.onAlign f).raster = s.raster := rfl
@[simp] theorem onAlign_title : (s.onAlign f).title = s.title := rfl
@[simp] theorem onAlign_keyer : (s.onAlign f).keyer = s.keyer := rfl
@[simp] theorem onAlign_cue : (s.onAlign f).cue = s.cue := rfl
@[simp] theorem onAlign_bus : (s.onAlign f).bus = s.bus := rfl
@[simp] theorem onAlign_att : (s.onAlign f).att = s.att := rfl
@[simp] theorem onAlign_pins : (s.onAlign f).pins = s.pins := rfl
@[simp] theorem onAlign_choices : (s.onAlign f).choices = s.choices := rfl
@[simp] theorem onAlign_pending : (s.onAlign f).pending = s.pending := rfl

end

/-! ### onSynth -/

section

variable (f : Synth → Synth)

@[simp] theorem onSynth_timebase : (s.onSynth f).timebase = s.timebase := rfl
@[simp] theorem onSynth_rawCsync : (s.onSynth f).rawCsync = s.rawCsync := rfl
@[simp] theorem onSynth_rawCue : (s.onSynth f).rawCue = s.rawCue := rfl
@[simp] theorem onSynth_resetHeld : (s.onSynth f).resetHeld = s.resetHeld := rfl
@[simp] theorem onSynth_bresetHeld : (s.onSynth f).bresetHeld = s.bresetHeld := rfl
@[simp] theorem onSynth_setup : (s.onSynth f).setup = s.setup := rfl
@[simp] theorem onSynth_front : (s.onSynth f).front = s.front := rfl
@[simp] theorem onSynth_loop : (s.onSynth f).loop = s.loop := rfl
@[simp] theorem onSynth_align : (s.onSynth f).align = s.align := rfl
@[simp] theorem onSynth_synth : (s.onSynth f).synth = f s.synth := rfl
@[simp] theorem onSynth_raster : (s.onSynth f).raster = s.raster := rfl
@[simp] theorem onSynth_title : (s.onSynth f).title = s.title := rfl
@[simp] theorem onSynth_keyer : (s.onSynth f).keyer = s.keyer := rfl
@[simp] theorem onSynth_cue : (s.onSynth f).cue = s.cue := rfl
@[simp] theorem onSynth_bus : (s.onSynth f).bus = s.bus := rfl
@[simp] theorem onSynth_att : (s.onSynth f).att = s.att := rfl
@[simp] theorem onSynth_pins : (s.onSynth f).pins = s.pins := rfl
@[simp] theorem onSynth_choices : (s.onSynth f).choices = s.choices := rfl
@[simp] theorem onSynth_pending : (s.onSynth f).pending = s.pending := rfl

end

/-! ### onRaster -/

section

variable (f : Raster → Raster)

@[simp] theorem onRaster_timebase : (s.onRaster f).timebase = s.timebase := rfl
@[simp] theorem onRaster_rawCsync : (s.onRaster f).rawCsync = s.rawCsync := rfl
@[simp] theorem onRaster_rawCue : (s.onRaster f).rawCue = s.rawCue := rfl
@[simp] theorem onRaster_resetHeld : (s.onRaster f).resetHeld = s.resetHeld := rfl
@[simp] theorem onRaster_bresetHeld : (s.onRaster f).bresetHeld = s.bresetHeld := rfl
@[simp] theorem onRaster_setup : (s.onRaster f).setup = s.setup := rfl
@[simp] theorem onRaster_front : (s.onRaster f).front = s.front := rfl
@[simp] theorem onRaster_loop : (s.onRaster f).loop = s.loop := rfl
@[simp] theorem onRaster_align : (s.onRaster f).align = s.align := rfl
@[simp] theorem onRaster_synth : (s.onRaster f).synth = s.synth := rfl
@[simp] theorem onRaster_raster : (s.onRaster f).raster = f s.raster := rfl
@[simp] theorem onRaster_title : (s.onRaster f).title = s.title := rfl
@[simp] theorem onRaster_keyer : (s.onRaster f).keyer = s.keyer := rfl
@[simp] theorem onRaster_cue : (s.onRaster f).cue = s.cue := rfl
@[simp] theorem onRaster_bus : (s.onRaster f).bus = s.bus := rfl
@[simp] theorem onRaster_att : (s.onRaster f).att = s.att := rfl
@[simp] theorem onRaster_pins : (s.onRaster f).pins = s.pins := rfl
@[simp] theorem onRaster_choices : (s.onRaster f).choices = s.choices := rfl
@[simp] theorem onRaster_pending : (s.onRaster f).pending = s.pending := rfl

end

/-! ### onTitle -/

section

variable (f : Title → Title)

@[simp] theorem onTitle_timebase : (s.onTitle f).timebase = s.timebase := rfl
@[simp] theorem onTitle_rawCsync : (s.onTitle f).rawCsync = s.rawCsync := rfl
@[simp] theorem onTitle_rawCue : (s.onTitle f).rawCue = s.rawCue := rfl
@[simp] theorem onTitle_resetHeld : (s.onTitle f).resetHeld = s.resetHeld := rfl
@[simp] theorem onTitle_bresetHeld : (s.onTitle f).bresetHeld = s.bresetHeld := rfl
@[simp] theorem onTitle_setup : (s.onTitle f).setup = s.setup := rfl
@[simp] theorem onTitle_front : (s.onTitle f).front = s.front := rfl
@[simp] theorem onTitle_loop : (s.onTitle f).loop = s.loop := rfl
@[simp] theorem onTitle_align : (s.onTitle f).align = s.align := rfl
@[simp] theorem onTitle_synth : (s.onTitle f).synth = s.synth := rfl
@[simp] theorem onTitle_raster : (s.onTitle f).raster = s.raster := rfl
@[simp] theorem onTitle_title : (s.onTitle f).title = f s.title := rfl
@[simp] theorem onTitle_keyer : (s.onTitle f).keyer = s.keyer := rfl
@[simp] theorem onTitle_cue : (s.onTitle f).cue = s.cue := rfl
@[simp] theorem onTitle_bus : (s.onTitle f).bus = s.bus := rfl
@[simp] theorem onTitle_att : (s.onTitle f).att = s.att := rfl
@[simp] theorem onTitle_pins : (s.onTitle f).pins = s.pins := rfl
@[simp] theorem onTitle_choices : (s.onTitle f).choices = s.choices := rfl
@[simp] theorem onTitle_pending : (s.onTitle f).pending = s.pending := rfl

end

/-! ### onKeyer -/

section

variable (f : Keyer → Keyer)

@[simp] theorem onKeyer_timebase : (s.onKeyer f).timebase = s.timebase := rfl
@[simp] theorem onKeyer_rawCsync : (s.onKeyer f).rawCsync = s.rawCsync := rfl
@[simp] theorem onKeyer_rawCue : (s.onKeyer f).rawCue = s.rawCue := rfl
@[simp] theorem onKeyer_resetHeld : (s.onKeyer f).resetHeld = s.resetHeld := rfl
@[simp] theorem onKeyer_bresetHeld : (s.onKeyer f).bresetHeld = s.bresetHeld := rfl
@[simp] theorem onKeyer_setup : (s.onKeyer f).setup = s.setup := rfl
@[simp] theorem onKeyer_front : (s.onKeyer f).front = s.front := rfl
@[simp] theorem onKeyer_loop : (s.onKeyer f).loop = s.loop := rfl
@[simp] theorem onKeyer_align : (s.onKeyer f).align = s.align := rfl
@[simp] theorem onKeyer_synth : (s.onKeyer f).synth = s.synth := rfl
@[simp] theorem onKeyer_raster : (s.onKeyer f).raster = s.raster := rfl
@[simp] theorem onKeyer_title : (s.onKeyer f).title = s.title := rfl
@[simp] theorem onKeyer_keyer : (s.onKeyer f).keyer = f s.keyer := rfl
@[simp] theorem onKeyer_cue : (s.onKeyer f).cue = s.cue := rfl
@[simp] theorem onKeyer_bus : (s.onKeyer f).bus = s.bus := rfl
@[simp] theorem onKeyer_att : (s.onKeyer f).att = s.att := rfl
@[simp] theorem onKeyer_pins : (s.onKeyer f).pins = s.pins := rfl
@[simp] theorem onKeyer_choices : (s.onKeyer f).choices = s.choices := rfl
@[simp] theorem onKeyer_pending : (s.onKeyer f).pending = s.pending := rfl

end

/-! ### onCue -/

section

variable (f : CueUnit → CueUnit)

@[simp] theorem onCue_timebase : (s.onCue f).timebase = s.timebase := rfl
@[simp] theorem onCue_rawCsync : (s.onCue f).rawCsync = s.rawCsync := rfl
@[simp] theorem onCue_rawCue : (s.onCue f).rawCue = s.rawCue := rfl
@[simp] theorem onCue_resetHeld : (s.onCue f).resetHeld = s.resetHeld := rfl
@[simp] theorem onCue_bresetHeld : (s.onCue f).bresetHeld = s.bresetHeld := rfl
@[simp] theorem onCue_setup : (s.onCue f).setup = s.setup := rfl
@[simp] theorem onCue_front : (s.onCue f).front = s.front := rfl
@[simp] theorem onCue_loop : (s.onCue f).loop = s.loop := rfl
@[simp] theorem onCue_align : (s.onCue f).align = s.align := rfl
@[simp] theorem onCue_synth : (s.onCue f).synth = s.synth := rfl
@[simp] theorem onCue_raster : (s.onCue f).raster = s.raster := rfl
@[simp] theorem onCue_title : (s.onCue f).title = s.title := rfl
@[simp] theorem onCue_keyer : (s.onCue f).keyer = s.keyer := rfl
@[simp] theorem onCue_cue : (s.onCue f).cue = f s.cue := rfl
@[simp] theorem onCue_bus : (s.onCue f).bus = s.bus := rfl
@[simp] theorem onCue_att : (s.onCue f).att = s.att := rfl
@[simp] theorem onCue_pins : (s.onCue f).pins = s.pins := rfl
@[simp] theorem onCue_choices : (s.onCue f).choices = s.choices := rfl
@[simp] theorem onCue_pending : (s.onCue f).pending = s.pending := rfl

end

/-! ### onBus -/

section

variable (f : Bus → Bus)

@[simp] theorem onBus_timebase : (s.onBus f).timebase = s.timebase := rfl
@[simp] theorem onBus_rawCsync : (s.onBus f).rawCsync = s.rawCsync := rfl
@[simp] theorem onBus_rawCue : (s.onBus f).rawCue = s.rawCue := rfl
@[simp] theorem onBus_resetHeld : (s.onBus f).resetHeld = s.resetHeld := rfl
@[simp] theorem onBus_bresetHeld : (s.onBus f).bresetHeld = s.bresetHeld := rfl
@[simp] theorem onBus_setup : (s.onBus f).setup = s.setup := rfl
@[simp] theorem onBus_front : (s.onBus f).front = s.front := rfl
@[simp] theorem onBus_loop : (s.onBus f).loop = s.loop := rfl
@[simp] theorem onBus_align : (s.onBus f).align = s.align := rfl
@[simp] theorem onBus_synth : (s.onBus f).synth = s.synth := rfl
@[simp] theorem onBus_raster : (s.onBus f).raster = s.raster := rfl
@[simp] theorem onBus_title : (s.onBus f).title = s.title := rfl
@[simp] theorem onBus_keyer : (s.onBus f).keyer = s.keyer := rfl
@[simp] theorem onBus_cue : (s.onBus f).cue = s.cue := rfl
@[simp] theorem onBus_bus : (s.onBus f).bus = f s.bus := rfl
@[simp] theorem onBus_att : (s.onBus f).att = s.att := rfl
@[simp] theorem onBus_pins : (s.onBus f).pins = s.pins := rfl
@[simp] theorem onBus_choices : (s.onBus f).choices = s.choices := rfl
@[simp] theorem onBus_pending : (s.onBus f).pending = s.pending := rfl

end

/-! ### onAtt -/

section

variable (f : Attention → Attention)

@[simp] theorem onAtt_timebase : (s.onAtt f).timebase = s.timebase := rfl
@[simp] theorem onAtt_rawCsync : (s.onAtt f).rawCsync = s.rawCsync := rfl
@[simp] theorem onAtt_rawCue : (s.onAtt f).rawCue = s.rawCue := rfl
@[simp] theorem onAtt_resetHeld : (s.onAtt f).resetHeld = s.resetHeld := rfl
@[simp] theorem onAtt_bresetHeld : (s.onAtt f).bresetHeld = s.bresetHeld := rfl
@[simp] theorem onAtt_setup : (s.onAtt f).setup = s.setup := rfl
@[simp] theorem onAtt_front : (s.onAtt f).front = s.front := rfl
@[simp] theorem onAtt_loop : (s.onAtt f).loop = s.loop := rfl
@[simp] theorem onAtt_align : (s.onAtt f).align = s.align := rfl
@[simp] theorem onAtt_synth : (s.onAtt f).synth = s.synth := rfl
@[simp] theorem onAtt_raster : (s.onAtt f).raster = s.raster := rfl
@[simp] theorem onAtt_title : (s.onAtt f).title = s.title := rfl
@[simp] theorem onAtt_keyer : (s.onAtt f).keyer = s.keyer := rfl
@[simp] theorem onAtt_cue : (s.onAtt f).cue = s.cue := rfl
@[simp] theorem onAtt_bus : (s.onAtt f).bus = s.bus := rfl
@[simp] theorem onAtt_att : (s.onAtt f).att = f s.att := rfl
@[simp] theorem onAtt_pins : (s.onAtt f).pins = s.pins := rfl
@[simp] theorem onAtt_choices : (s.onAtt f).choices = s.choices := rfl
@[simp] theorem onAtt_pending : (s.onAtt f).pending = s.pending := rfl

end

/-! ### setPins -/

section

variable (p : Pins)

@[simp] theorem setPins_timebase : (s.setPins p).timebase = s.timebase := rfl
@[simp] theorem setPins_rawCsync : (s.setPins p).rawCsync = s.rawCsync := rfl
@[simp] theorem setPins_rawCue : (s.setPins p).rawCue = s.rawCue := rfl
@[simp] theorem setPins_resetHeld : (s.setPins p).resetHeld = s.resetHeld := rfl
@[simp] theorem setPins_bresetHeld : (s.setPins p).bresetHeld = s.bresetHeld := rfl
@[simp] theorem setPins_setup : (s.setPins p).setup = s.setup := rfl
@[simp] theorem setPins_front : (s.setPins p).front = s.front := rfl
@[simp] theorem setPins_loop : (s.setPins p).loop = s.loop := rfl
@[simp] theorem setPins_align : (s.setPins p).align = s.align := rfl
@[simp] theorem setPins_synth : (s.setPins p).synth = s.synth := rfl
@[simp] theorem setPins_raster : (s.setPins p).raster = s.raster := rfl
@[simp] theorem setPins_title : (s.setPins p).title = s.title := rfl
@[simp] theorem setPins_keyer : (s.setPins p).keyer = s.keyer := rfl
@[simp] theorem setPins_cue : (s.setPins p).cue = s.cue := rfl
@[simp] theorem setPins_bus : (s.setPins p).bus = s.bus := rfl
@[simp] theorem setPins_att : (s.setPins p).att = s.att := rfl
@[simp] theorem setPins_pins : (s.setPins p).pins = p := rfl
@[simp] theorem setPins_choices : (s.setPins p).choices = s.choices := rfl
@[simp] theorem setPins_pending : (s.setPins p).pending = s.pending := rfl

end

/-! ### setRawCsync -/

section

variable (l : Level)

@[simp] theorem setRawCsync_timebase : (s.setRawCsync l).timebase = s.timebase := rfl
@[simp] theorem setRawCsync_rawCsync : (s.setRawCsync l).rawCsync = l := rfl
@[simp] theorem setRawCsync_rawCue : (s.setRawCsync l).rawCue = s.rawCue := rfl
@[simp] theorem setRawCsync_resetHeld : (s.setRawCsync l).resetHeld = s.resetHeld := rfl
@[simp] theorem setRawCsync_bresetHeld : (s.setRawCsync l).bresetHeld = s.bresetHeld := rfl
@[simp] theorem setRawCsync_setup : (s.setRawCsync l).setup = s.setup := rfl
@[simp] theorem setRawCsync_front : (s.setRawCsync l).front = s.front := rfl
@[simp] theorem setRawCsync_loop : (s.setRawCsync l).loop = s.loop := rfl
@[simp] theorem setRawCsync_align : (s.setRawCsync l).align = s.align := rfl
@[simp] theorem setRawCsync_synth : (s.setRawCsync l).synth = s.synth := rfl
@[simp] theorem setRawCsync_raster : (s.setRawCsync l).raster = s.raster := rfl
@[simp] theorem setRawCsync_title : (s.setRawCsync l).title = s.title := rfl
@[simp] theorem setRawCsync_keyer : (s.setRawCsync l).keyer = s.keyer := rfl
@[simp] theorem setRawCsync_cue : (s.setRawCsync l).cue = s.cue := rfl
@[simp] theorem setRawCsync_bus : (s.setRawCsync l).bus = s.bus := rfl
@[simp] theorem setRawCsync_att : (s.setRawCsync l).att = s.att := rfl
@[simp] theorem setRawCsync_pins : (s.setRawCsync l).pins = s.pins := rfl
@[simp] theorem setRawCsync_choices : (s.setRawCsync l).choices = s.choices := rfl
@[simp] theorem setRawCsync_pending : (s.setRawCsync l).pending = s.pending := rfl

end

/-! ### setRawCue -/

section

variable (l : Level)

@[simp] theorem setRawCue_timebase : (s.setRawCue l).timebase = s.timebase := rfl
@[simp] theorem setRawCue_rawCsync : (s.setRawCue l).rawCsync = s.rawCsync := rfl
@[simp] theorem setRawCue_rawCue : (s.setRawCue l).rawCue = l := rfl
@[simp] theorem setRawCue_resetHeld : (s.setRawCue l).resetHeld = s.resetHeld := rfl
@[simp] theorem setRawCue_bresetHeld : (s.setRawCue l).bresetHeld = s.bresetHeld := rfl
@[simp] theorem setRawCue_setup : (s.setRawCue l).setup = s.setup := rfl
@[simp] theorem setRawCue_front : (s.setRawCue l).front = s.front := rfl
@[simp] theorem setRawCue_loop : (s.setRawCue l).loop = s.loop := rfl
@[simp] theorem setRawCue_align : (s.setRawCue l).align = s.align := rfl
@[simp] theorem setRawCue_synth : (s.setRawCue l).synth = s.synth := rfl
@[simp] theorem setRawCue_raster : (s.setRawCue l).raster = s.raster := rfl
@[simp] theorem setRawCue_title : (s.setRawCue l).title = s.title := rfl
@[simp] theorem setRawCue_keyer : (s.setRawCue l).keyer = s.keyer := rfl
@[simp] theorem setRawCue_cue : (s.setRawCue l).cue = s.cue := rfl
@[simp] theorem setRawCue_bus : (s.setRawCue l).bus = s.bus := rfl
@[simp] theorem setRawCue_att : (s.setRawCue l).att = s.att := rfl
@[simp] theorem setRawCue_pins : (s.setRawCue l).pins = s.pins := rfl
@[simp] theorem setRawCue_choices : (s.setRawCue l).choices = s.choices := rfl
@[simp] theorem setRawCue_pending : (s.setRawCue l).pending = s.pending := rfl

end

/-! ### setBreset -/

section

variable (b : Bool)

@[simp] theorem setBreset_timebase : (s.setBreset b).timebase = s.timebase := rfl
@[simp] theorem setBreset_rawCsync : (s.setBreset b).rawCsync = s.rawCsync := rfl
@[simp] theorem setBreset_rawCue : (s.setBreset b).rawCue = s.rawCue := rfl
@[simp] theorem setBreset_resetHeld : (s.setBreset b).resetHeld = s.resetHeld := rfl
@[simp] theorem setBreset_bresetHeld : (s.setBreset b).bresetHeld = b := rfl
@[simp] theorem setBreset_setup : (s.setBreset b).setup = s.setup := rfl
@[simp] theorem setBreset_front : (s.setBreset b).front = s.front := rfl
@[simp] theorem setBreset_loop : (s.setBreset b).loop = s.loop := rfl
@[simp] theorem setBreset_align : (s.setBreset b).align = s.align := rfl
@[simp] theorem setBreset_synth : (s.setBreset b).synth = s.synth := rfl
@[simp] theorem setBreset_raster : (s.setBreset b).raster = s.raster := rfl
@[simp] theorem setBreset_title : (s.setBreset b).title = s.title := rfl
@[simp] theorem setBreset_keyer : (s.setBreset b).keyer = s.keyer := rfl
@[simp] theorem setBreset_cue : (s.setBreset b).cue = s.cue := rfl
@[simp] theorem setBreset_bus : (s.setBreset b).bus = s.bus := rfl
@[simp] theorem setBreset_att : (s.setBreset b).att = s.att := rfl
@[simp] theorem setBreset_pins : (s.setBreset b).pins = s.pins := rfl
@[simp] theorem setBreset_choices : (s.setBreset b).choices = s.choices := rfl
@[simp] theorem setBreset_pending : (s.setBreset b).pending = s.pending := rfl

end

/-! ### setReset -/

section

variable (b : Bool)

@[simp] theorem setReset_timebase : (s.setReset b).timebase = s.timebase := rfl
@[simp] theorem setReset_rawCsync : (s.setReset b).rawCsync = s.rawCsync := rfl
@[simp] theorem setReset_rawCue : (s.setReset b).rawCue = s.rawCue := rfl
@[simp] theorem setReset_resetHeld : (s.setReset b).resetHeld = b := rfl
@[simp] theorem setReset_bresetHeld : (s.setReset b).bresetHeld = s.bresetHeld := rfl
@[simp] theorem setReset_setup : (s.setReset b).setup = s.setup := rfl
@[simp] theorem setReset_front : (s.setReset b).front = s.front := rfl
@[simp] theorem setReset_loop : (s.setReset b).loop = s.loop := rfl
@[simp] theorem setReset_align : (s.setReset b).align = s.align := rfl
@[simp] theorem setReset_synth : (s.setReset b).synth = s.synth := rfl
@[simp] theorem setReset_raster : (s.setReset b).raster = s.raster := rfl
@[simp] theorem setReset_title : (s.setReset b).title = s.title := rfl
@[simp] theorem setReset_keyer : (s.setReset b).keyer = s.keyer := rfl
@[simp] theorem setReset_cue : (s.setReset b).cue = s.cue := rfl
@[simp] theorem setReset_bus : (s.setReset b).bus = s.bus := rfl
@[simp] theorem setReset_att : (s.setReset b).att = s.att := rfl
@[simp] theorem setReset_pins : (s.setReset b).pins = s.pins := rfl
@[simp] theorem setReset_choices : (s.setReset b).choices = s.choices := rfl
@[simp] theorem setReset_pending : (s.setReset b).pending = s.pending := rfl

end

/-! ### setChoices -/

section

variable (n : Nat)

@[simp] theorem setChoices_timebase : (s.setChoices n).timebase = s.timebase := rfl
@[simp] theorem setChoices_rawCsync : (s.setChoices n).rawCsync = s.rawCsync := rfl
@[simp] theorem setChoices_rawCue : (s.setChoices n).rawCue = s.rawCue := rfl
@[simp] theorem setChoices_resetHeld : (s.setChoices n).resetHeld = s.resetHeld := rfl
@[simp] theorem setChoices_bresetHeld : (s.setChoices n).bresetHeld = s.bresetHeld := rfl
@[simp] theorem setChoices_setup : (s.setChoices n).setup = s.setup := rfl
@[simp] theorem setChoices_front : (s.setChoices n).front = s.front := rfl
@[simp] theorem setChoices_loop : (s.setChoices n).loop = s.loop := rfl
@[simp] theorem setChoices_align : (s.setChoices n).align = s.align := rfl
@[simp] theorem setChoices_synth : (s.setChoices n).synth = s.synth := rfl
@[simp] theorem setChoices_raster : (s.setChoices n).raster = s.raster := rfl
@[simp] theorem setChoices_title : (s.setChoices n).title = s.title := rfl
@[simp] theorem setChoices_keyer : (s.setChoices n).keyer = s.keyer := rfl
@[simp] theorem setChoices_cue : (s.setChoices n).cue = s.cue := rfl
@[simp] theorem setChoices_bus : (s.setChoices n).bus = s.bus := rfl
@[simp] theorem setChoices_att : (s.setChoices n).att = s.att := rfl
@[simp] theorem setChoices_pins : (s.setChoices n).pins = s.pins := rfl
@[simp] theorem setChoices_choices : (s.setChoices n).choices = n := rfl
@[simp] theorem setChoices_pending : (s.setChoices n).pending = s.pending := rfl

end

/-! ### setPending -/

section

variable (q : List Instr)

@[simp] theorem setPending_timebase : (s.setPending q).timebase = s.timebase := rfl
@[simp] theorem setPending_rawCsync : (s.setPending q).rawCsync = s.rawCsync := rfl
@[simp] theorem setPending_rawCue : (s.setPending q).rawCue = s.rawCue := rfl
@[simp] theorem setPending_resetHeld : (s.setPending q).resetHeld = s.resetHeld := rfl
@[simp] theorem setPending_bresetHeld : (s.setPending q).bresetHeld = s.bresetHeld := rfl
@[simp] theorem setPending_setup : (s.setPending q).setup = s.setup := rfl
@[simp] theorem setPending_front : (s.setPending q).front = s.front := rfl
@[simp] theorem setPending_loop : (s.setPending q).loop = s.loop := rfl
@[simp] theorem setPending_align : (s.setPending q).align = s.align := rfl
@[simp] theorem setPending_synth : (s.setPending q).synth = s.synth := rfl
@[simp] theorem setPending_raster : (s.setPending q).raster = s.raster := rfl
@[simp] theorem setPending_title : (s.setPending q).title = s.title := rfl
@[simp] theorem setPending_keyer : (s.setPending q).keyer = s.keyer := rfl
@[simp] theorem setPending_cue : (s.setPending q).cue = s.cue := rfl
@[simp] theorem setPending_bus : (s.setPending q).bus = s.bus := rfl
@[simp] theorem setPending_att : (s.setPending q).att = s.att := rfl
@[simp] theorem setPending_pins : (s.setPending q).pins = s.pins := rfl
@[simp] theorem setPending_choices : (s.setPending q).choices = s.choices := rfl
@[simp] theorem setPending_pending : (s.setPending q).pending = q := rfl

end

end Sys2Proof.Machine.State
end

