-- ==== Sys2Proof/Laws/Frames.lean ====
section
/-! SUPPORT. For each operation the meanings share, the blocks it leaves as they were, said once. -/

namespace Sys2Proof.Machine

variable (s : State)

/-! ### Causes, pins, time, choices -/

@[simp] theorem State.raise_frame (c : Cause) :
    (s.raise c).timebase = s.timebase ∧ (s.raise c).rawCsync = s.rawCsync ∧ (s.raise c).rawCue = s.rawCue ∧
    (s.raise c).resetHeld = s.resetHeld ∧ (s.raise c).bresetHeld = s.bresetHeld ∧ (s.raise c).setup = s.setup ∧
    (s.raise c).front = s.front ∧ (s.raise c).loop = s.loop ∧ (s.raise c).align = s.align ∧
    (s.raise c).synth = s.synth ∧ (s.raise c).raster = s.raster ∧ (s.raise c).title = s.title ∧
    (s.raise c).keyer = s.keyer ∧ (s.raise c).cue = s.cue ∧ (s.raise c).bus = s.bus ∧ (s.raise c).pins = s.pins ∧
    (s.raise c).choices = s.choices ∧ (s.raise c).pending = s.pending := by
  simp [State.raise]

@[simp] theorem State.raiseIf_frame (b : Bool) (c : Cause) :
    (s.raiseIf b c).timebase = s.timebase ∧ (s.raiseIf b c).rawCsync = s.rawCsync ∧
    (s.raiseIf b c).rawCue = s.rawCue ∧ (s.raiseIf b c).resetHeld = s.resetHeld ∧
    (s.raiseIf b c).bresetHeld = s.bresetHeld ∧ (s.raiseIf b c).setup = s.setup ∧
    (s.raiseIf b c).front = s.front ∧ (s.raiseIf b c).loop = s.loop ∧ (s.raiseIf b c).align = s.align ∧
    (s.raiseIf b c).synth = s.synth ∧ (s.raiseIf b c).raster = s.raster ∧ (s.raiseIf b c).title = s.title ∧
    (s.raiseIf b c).keyer = s.keyer ∧ (s.raiseIf b c).cue = s.cue ∧ (s.raiseIf b c).bus = s.bus ∧
    (s.raiseIf b c).pins = s.pins ∧ (s.raiseIf b c).choices = s.choices ∧ (s.raiseIf b c).pending = s.pending := by
  unfold State.raiseIf; split <;> simp

@[simp] theorem State.handMismatch_frame :
    s.handMismatch.timebase = s.timebase ∧ s.handMismatch.rawCsync = s.rawCsync ∧
    s.handMismatch.rawCue = s.rawCue ∧ s.handMismatch.resetHeld = s.resetHeld ∧
    s.handMismatch.bresetHeld = s.bresetHeld ∧ s.handMismatch.setup = s.setup ∧ s.handMismatch.front = s.front ∧
    s.handMismatch.loop = s.loop ∧ s.handMismatch.align = s.align ∧ s.handMismatch.synth = s.synth ∧
    s.handMismatch.raster = s.raster ∧ s.handMismatch.title = s.title ∧ s.handMismatch.keyer = s.keyer ∧
    s.handMismatch.cue = s.cue ∧ s.handMismatch.bus = s.bus ∧ s.handMismatch.pins = s.pins ∧
    s.handMismatch.choices = s.choices ∧ s.handMismatch.pending = s.pending := by
  simp [State.handMismatch]

@[simp] theorem State.drive_frame :
    s.drive.timebase = s.timebase ∧ s.drive.rawCsync = s.rawCsync ∧ s.drive.rawCue = s.rawCue ∧
    s.drive.resetHeld = s.resetHeld ∧ s.drive.bresetHeld = s.bresetHeld ∧ s.drive.setup = s.setup ∧
    s.drive.front = s.front ∧ s.drive.loop = s.loop ∧ s.drive.align = s.align ∧ s.drive.synth = s.synth ∧
    s.drive.raster = s.raster ∧ s.drive.title = s.title ∧ s.drive.keyer = s.keyer ∧ s.drive.cue = s.cue ∧
    s.drive.bus = s.bus ∧ s.drive.att = s.att ∧ s.drive.choices = s.choices ∧ s.drive.pending = s.pending := by
  simp [State.drive]

@[simp] theorem State.advanceTo_frame (now : Time) :
    (s.advanceTo now).rawCsync = s.rawCsync ∧ (s.advanceTo now).rawCue = s.rawCue ∧
    (s.advanceTo now).resetHeld = s.resetHeld ∧ (s.advanceTo now).bresetHeld = s.bresetHeld ∧
    (s.advanceTo now).setup = s.setup ∧ (s.advanceTo now).front = s.front ∧ (s.advanceTo now).loop = s.loop ∧
    (s.advanceTo now).align = s.align ∧ (s.advanceTo now).raster = s.raster ∧ (s.advanceTo now).title = s.title ∧
    (s.advanceTo now).keyer = s.keyer ∧ (s.advanceTo now).cue = s.cue ∧ (s.advanceTo now).bus = s.bus ∧
    (s.advanceTo now).att = s.att ∧ (s.advanceTo now).pins = s.pins ∧ (s.advanceTo now).choices = s.choices ∧
    (s.advanceTo now).pending = s.pending := by
  simp [State.advanceTo]

@[simp] theorem State.tie_frame :
    s.tie.2.timebase = s.timebase ∧ s.tie.2.rawCsync = s.rawCsync ∧ s.tie.2.rawCue = s.rawCue ∧
    s.tie.2.resetHeld = s.resetHeld ∧ s.tie.2.bresetHeld = s.bresetHeld ∧ s.tie.2.setup = s.setup ∧
    s.tie.2.front = s.front ∧ s.tie.2.loop = s.loop ∧ s.tie.2.align = s.align ∧ s.tie.2.synth = s.synth ∧
    s.tie.2.raster = s.raster ∧ s.tie.2.title = s.title ∧ s.tie.2.keyer = s.keyer ∧ s.tie.2.cue = s.cue ∧
    s.tie.2.bus = s.bus ∧ s.tie.2.att = s.att ∧ s.tie.2.pins = s.pins ∧ s.tie.2.pending = s.pending := by
  simp [State.tie]

/-! ### The loop's increment and states -/

@[simp] theorem State.handInc_frame (x : Int) :
    (s.handInc x).timebase = s.timebase ∧ (s.handInc x).rawCsync = s.rawCsync ∧ (s.handInc x).rawCue = s.rawCue ∧
    (s.handInc x).resetHeld = s.resetHeld ∧ (s.handInc x).bresetHeld = s.bresetHeld ∧
    (s.handInc x).setup = s.setup ∧ (s.handInc x).front = s.front ∧ (s.handInc x).align = s.align ∧
    (s.handInc x).raster = s.raster ∧ (s.handInc x).title = s.title ∧ (s.handInc x).keyer = s.keyer ∧
    (s.handInc x).cue = s.cue ∧ (s.handInc x).bus = s.bus ∧ (s.handInc x).att = s.att ∧
    (s.handInc x).pins = s.pins ∧ (s.handInc x).choices = s.choices ∧ (s.handInc x).pending = s.pending := by
  simp [State.handInc]

@[simp] theorem State.incToFreq_frame :
    s.incToFreq.timebase = s.timebase ∧ s.incToFreq.rawCsync = s.rawCsync ∧ s.incToFreq.rawCue = s.rawCue ∧
    s.incToFreq.resetHeld = s.resetHeld ∧ s.incToFreq.bresetHeld = s.bresetHeld ∧ s.incToFreq.setup = s.setup ∧
    s.incToFreq.front = s.front ∧ s.incToFreq.align = s.align ∧ s.incToFreq.raster = s.raster ∧
    s.incToFreq.title = s.title ∧ s.incToFreq.keyer = s.keyer ∧ s.incToFreq.cue = s.cue ∧
    s.incToFreq.bus = s.bus ∧ s.incToFreq.att = s.att ∧ s.incToFreq.pins = s.pins ∧
    s.incToFreq.choices = s.choices ∧ s.incToFreq.pending = s.pending := by
  simp [State.incToFreq]

@[simp] theorem State.enter_frame (st : LoopState) :
    (s.enter st).timebase = s.timebase ∧ (s.enter st).rawCsync = s.rawCsync ∧ (s.enter st).rawCue = s.rawCue ∧
    (s.enter st).resetHeld = s.resetHeld ∧ (s.enter st).bresetHeld = s.bresetHeld ∧ (s.enter st).setup = s.setup ∧
    (s.enter st).align = s.align ∧ (s.enter st).raster = s.raster ∧ (s.enter st).title = s.title ∧
    (s.enter st).keyer = s.keyer ∧ (s.enter st).cue = s.cue ∧ (s.enter st).bus = s.bus ∧
    (s.enter st).att = s.att ∧ (s.enter st).pins = s.pins ∧ (s.enter st).choices = s.choices ∧
    (s.enter st).pending = s.pending := by
  cases st <;> simp [State.enter]

@[simp] theorem State.expireHoldover_frame :
    s.expireHoldover.timebase = s.timebase ∧ s.expireHoldover.rawCsync = s.rawCsync ∧
    s.expireHoldover.rawCue = s.rawCue ∧ s.expireHoldover.resetHeld = s.resetHeld ∧
    s.expireHoldover.bresetHeld = s.bresetHeld ∧ s.expireHoldover.setup = s.setup ∧
    s.expireHoldover.align = s.align ∧ s.expireHoldover.raster = s.raster ∧ s.expireHoldover.title = s.title ∧
    s.expireHoldover.keyer = s.keyer ∧ s.expireHoldover.cue = s.cue ∧ s.expireHoldover.bus = s.bus ∧
    s.expireHoldover.pins = s.pins ∧ s.expireHoldover.choices = s.choices ∧ s.expireHoldover.pending = s.pending := by
  unfold State.expireHoldover; split <;> simp

/-! ### The title chain -/

@[simp] theorem State.activate_frame (i : Fin 4) :
    (s.activate i).timebase = s.timebase ∧ (s.activate i).rawCsync = s.rawCsync ∧
    (s.activate i).rawCue = s.rawCue ∧ (s.activate i).resetHeld = s.resetHeld ∧
    (s.activate i).bresetHeld = s.bresetHeld ∧ (s.activate i).setup = s.setup ∧ (s.activate i).front = s.front ∧
    (s.activate i).loop = s.loop ∧ (s.activate i).align = s.align ∧ (s.activate i).synth = s.synth ∧
    (s.activate i).raster = s.raster ∧ (s.activate i).keyer = s.keyer ∧ (s.activate i).cue = s.cue ∧
    (s.activate i).bus = s.bus ∧ (s.activate i).att = s.att ∧ (s.activate i).pins = s.pins ∧
    (s.activate i).choices = s.choices ∧ (s.activate i).pending = s.pending := by
  simp [State.activate]

@[simp] theorem State.deactivate_frame :
    s.deactivate.timebase = s.timebase ∧ s.deactivate.rawCsync = s.rawCsync ∧ s.deactivate.rawCue = s.rawCue ∧
    s.deactivate.resetHeld = s.resetHeld ∧ s.deactivate.bresetHeld = s.bresetHeld ∧ s.deactivate.setup = s.setup ∧
    s.deactivate.front = s.front ∧ s.deactivate.loop = s.loop ∧ s.deactivate.align = s.align ∧
    s.deactivate.synth = s.synth ∧ s.deactivate.raster = s.raster ∧ s.deactivate.keyer = s.keyer ∧
    s.deactivate.cue = s.cue ∧ s.deactivate.bus = s.bus ∧ s.deactivate.att = s.att ∧ s.deactivate.pins = s.pins ∧
    s.deactivate.choices = s.choices ∧ s.deactivate.pending = s.pending := by
  simp [State.deactivate]

@[simp] theorem State.advanceChain_frame :
    s.advanceChain.timebase = s.timebase ∧ s.advanceChain.rawCsync = s.rawCsync ∧
    s.advanceChain.rawCue = s.rawCue ∧ s.advanceChain.resetHeld = s.resetHeld ∧
    s.advanceChain.bresetHeld = s.bresetHeld ∧ s.advanceChain.setup = s.setup ∧ s.advanceChain.front = s.front ∧
    s.advanceChain.loop = s.loop ∧ s.advanceChain.align = s.align ∧ s.advanceChain.synth = s.synth ∧
    s.advanceChain.raster = s.raster ∧ s.advanceChain.keyer = s.keyer ∧ s.advanceChain.cue = s.cue ∧
    s.advanceChain.bus = s.bus ∧ s.advanceChain.pins = s.pins ∧ s.advanceChain.choices = s.choices ∧
    s.advanceChain.pending = s.pending := by
  unfold State.advanceChain; split; · simp
  split <;> simp

@[simp] theorem State.expireDwell_frame :
    s.expireDwell.timebase = s.timebase ∧ s.expireDwell.rawCsync = s.rawCsync ∧ s.expireDwell.rawCue = s.rawCue ∧
    s.expireDwell.resetHeld = s.resetHeld ∧ s.expireDwell.bresetHeld = s.bresetHeld ∧
    s.expireDwell.setup = s.setup ∧ s.expireDwell.front = s.front ∧ s.expireDwell.loop = s.loop ∧
    s.expireDwell.align = s.align ∧ s.expireDwell.synth = s.synth ∧ s.expireDwell.raster = s.raster ∧
    s.expireDwell.keyer = s.keyer ∧ s.expireDwell.cue = s.cue ∧ s.expireDwell.bus = s.bus ∧
    s.expireDwell.pins = s.pins ∧ s.expireDwell.choices = s.choices ∧ s.expireDwell.pending = s.pending := by
  unfold State.expireDwell; split <;> simp

@[simp] theorem State.cueAdvance_frame :
    s.cueAdvance.timebase = s.timebase ∧ s.cueAdvance.rawCsync = s.rawCsync ∧ s.cueAdvance.rawCue = s.rawCue ∧
    s.cueAdvance.resetHeld = s.resetHeld ∧ s.cueAdvance.bresetHeld = s.bresetHeld ∧ s.cueAdvance.setup = s.setup ∧
    s.cueAdvance.front = s.front ∧ s.cueAdvance.loop = s.loop ∧ s.cueAdvance.align = s.align ∧
    s.cueAdvance.synth = s.synth ∧ s.cueAdvance.raster = s.raster ∧ s.cueAdvance.keyer = s.keyer ∧
    s.cueAdvance.cue = s.cue ∧ s.cueAdvance.bus = s.bus ∧ s.cueAdvance.pins = s.pins ∧
    s.cueAdvance.choices = s.choices ∧ s.cueAdvance.pending = s.pending := by
  unfold State.cueAdvance; split; · simp
  split <;> simp

@[simp] theorem State.caughtUp_frame :
    s.caughtUp.timebase = s.timebase ∧ s.caughtUp.rawCsync = s.rawCsync ∧ s.caughtUp.rawCue = s.rawCue ∧
    s.caughtUp.resetHeld = s.resetHeld ∧ s.caughtUp.bresetHeld = s.bresetHeld ∧ s.caughtUp.setup = s.setup ∧
    s.caughtUp.align = s.align ∧ s.caughtUp.raster = s.raster ∧ s.caughtUp.keyer = s.keyer ∧
    s.caughtUp.cue = s.cue ∧ s.caughtUp.bus = s.bus ∧ s.caughtUp.pins = s.pins ∧ s.caughtUp.choices = s.choices ∧
    s.caughtUp.pending = s.pending := by
  simp [State.caughtUp]

/-! ### Buses and commands -/

@[simp] theorem State.passCycle_frame (c : BusCycle) :
    (s.passCycle c).timebase = s.timebase ∧ (s.passCycle c).rawCsync = s.rawCsync ∧
    (s.passCycle c).rawCue = s.rawCue ∧ (s.passCycle c).resetHeld = s.resetHeld ∧
    (s.passCycle c).bresetHeld = s.bresetHeld ∧ (s.passCycle c).setup = s.setup ∧
    (s.passCycle c).front = s.front ∧ (s.passCycle c).loop = s.loop ∧ (s.passCycle c).align = s.align ∧
    (s.passCycle c).synth = s.synth ∧ (s.passCycle c).raster = s.raster ∧ (s.passCycle c).title = s.title ∧
    (s.passCycle c).keyer = s.keyer ∧ (s.passCycle c).cue = s.cue ∧ (s.passCycle c).att = s.att ∧
    (s.passCycle c).pins = s.pins ∧ (s.passCycle c).choices = s.choices ∧ (s.passCycle c).pending = s.pending := by
  simp [State.passCycle]

@[simp] theorem State.answer_frame (w : Word) :
    (s.answer w).timebase = s.timebase ∧ (s.answer w).rawCsync = s.rawCsync ∧ (s.answer w).rawCue = s.rawCue ∧
    (s.answer w).resetHeld = s.resetHeld ∧ (s.answer w).bresetHeld = s.bresetHeld ∧ (s.answer w).setup = s.setup ∧
    (s.answer w).front = s.front ∧ (s.answer w).loop = s.loop ∧ (s.answer w).align = s.align ∧
    (s.answer w).synth = s.synth ∧ (s.answer w).raster = s.raster ∧ (s.answer w).title = s.title ∧
    (s.answer w).keyer = s.keyer ∧ (s.answer w).cue = s.cue ∧ (s.answer w).att = s.att ∧
    (s.answer w).pins = s.pins ∧ (s.answer w).choices = s.choices ∧ (s.answer w).pending = s.pending := by
  simp [State.answer]

@[simp] theorem State.giveVerdict_frame (c : Command) (v : Verdict) :
    (s.giveVerdict c v).timebase = s.timebase ∧ (s.giveVerdict c v).rawCsync = s.rawCsync ∧
    (s.giveVerdict c v).rawCue = s.rawCue ∧ (s.giveVerdict c v).resetHeld = s.resetHeld ∧
    (s.giveVerdict c v).bresetHeld = s.bresetHeld ∧ (s.giveVerdict c v).setup = s.setup ∧
    (s.giveVerdict c v).front = s.front ∧ (s.giveVerdict c v).loop = s.loop ∧
    (s.giveVerdict c v).align = s.align ∧ (s.giveVerdict c v).synth = s.synth ∧
    (s.giveVerdict c v).raster = s.raster ∧ (s.giveVerdict c v).title = s.title ∧
    (s.giveVerdict c v).keyer = s.keyer ∧ (s.giveVerdict c v).cue = s.cue ∧ (s.giveVerdict c v).pins = s.pins ∧
    (s.giveVerdict c v).choices = s.choices ∧ (s.giveVerdict c v).pending = s.pending := by
  simp [State.giveVerdict]

/-! ### Ramp units -/

@[simp] theorem State.onRamp_frame (r : Fin 4) (f : Ramp → Ramp) :
    (s.onRamp r f).timebase = s.timebase ∧ (s.onRamp r f).rawCsync = s.rawCsync ∧
    (s.onRamp r f).rawCue = s.rawCue ∧ (s.onRamp r f).resetHeld = s.resetHeld ∧
    (s.onRamp r f).bresetHeld = s.bresetHeld ∧ (s.onRamp r f).setup = s.setup ∧ (s.onRamp r f).front = s.front ∧
    (s.onRamp r f).loop = s.loop ∧ (s.onRamp r f).align = s.align ∧ (s.onRamp r f).synth = s.synth ∧
    (s.onRamp r f).raster = s.raster ∧ (s.onRamp r f).title = s.title ∧ (s.onRamp r f).cue = s.cue ∧
    (s.onRamp r f).bus = s.bus ∧ (s.onRamp r f).att = s.att ∧ (s.onRamp r f).pins = s.pins ∧
    (s.onRamp r f).choices = s.choices ∧ (s.onRamp r f).pending = s.pending := by
  simp [State.onRamp]

@[simp] theorem State.fadeRamp_frame (r : Fin 4) (target rate : Nat) :
    (s.fadeRamp r target rate).timebase = s.timebase ∧ (s.fadeRamp r target rate).rawCsync = s.rawCsync ∧
    (s.fadeRamp r target rate).rawCue = s.rawCue ∧ (s.fadeRamp r target rate).resetHeld = s.resetHeld ∧
    (s.fadeRamp r target rate).bresetHeld = s.bresetHeld ∧ (s.fadeRamp r target rate).setup = s.setup ∧
    (s.fadeRamp r target rate).front = s.front ∧ (s.fadeRamp r target rate).loop = s.loop ∧
    (s.fadeRamp r target rate).align = s.align ∧ (s.fadeRamp r target rate).synth = s.synth ∧
    (s.fadeRamp r target rate).raster = s.raster ∧ (s.fadeRamp r target rate).title = s.title ∧
    (s.fadeRamp r target rate).cue = s.cue ∧ (s.fadeRamp r target rate).bus = s.bus ∧
    (s.fadeRamp r target rate).pins = s.pins ∧ (s.fadeRamp r target rate).choices = s.choices ∧
    (s.fadeRamp r target rate).pending = s.pending := by
  simp [State.fadeRamp]

@[simp] theorem State.cutRamp_frame (r : Fin 4) (level : Nat) :
    (s.cutRamp r level).timebase = s.timebase ∧ (s.cutRamp r level).rawCsync = s.rawCsync ∧
    (s.cutRamp r level).rawCue = s.rawCue ∧ (s.cutRamp r level).resetHeld = s.resetHeld ∧
    (s.cutRamp r level).bresetHeld = s.bresetHeld ∧ (s.cutRamp r level).setup = s.setup ∧
    (s.cutRamp r level).front = s.front ∧ (s.cutRamp r level).loop = s.loop ∧
    (s.cutRamp r level).align = s.align ∧ (s.cutRamp r level).synth = s.synth ∧
    (s.cutRamp r level).raster = s.raster ∧ (s.cutRamp r level).title = s.title ∧
    (s.cutRamp r level).cue = s.cue ∧ (s.cutRamp r level).bus = s.bus ∧ (s.cutRamp r level).att = s.att ∧
    (s.cutRamp r level).pins = s.pins ∧ (s.cutRamp r level).choices = s.choices ∧
    (s.cutRamp r level).pending = s.pending := by
  simp [State.cutRamp]

@[simp] theorem State.stepRamps_frame :
    s.stepRamps.timebase = s.timebase ∧ s.stepRamps.rawCsync = s.rawCsync ∧ s.stepRamps.rawCue = s.rawCue ∧
    s.stepRamps.resetHeld = s.resetHeld ∧ s.stepRamps.bresetHeld = s.bresetHeld ∧ s.stepRamps.setup = s.setup ∧
    s.stepRamps.front = s.front ∧ s.stepRamps.loop = s.loop ∧ s.stepRamps.align = s.align ∧
    s.stepRamps.synth = s.synth ∧ s.stepRamps.raster = s.raster ∧ s.stepRamps.title = s.title ∧
    s.stepRamps.cue = s.cue ∧ s.stepRamps.bus = s.bus ∧ s.stepRamps.pins = s.pins ∧
    s.stepRamps.choices = s.choices ∧ s.stepRamps.pending = s.pending := by
  simp [State.stepRamps]

@[simp] theorem State.primeRamps_frame :
    s.primeRamps.timebase = s.timebase ∧ s.primeRamps.rawCsync = s.rawCsync ∧ s.primeRamps.rawCue = s.rawCue ∧
    s.primeRamps.resetHeld = s.resetHeld ∧ s.primeRamps.bresetHeld = s.bresetHeld ∧ s.primeRamps.setup = s.setup ∧
    s.primeRamps.front = s.front ∧ s.primeRamps.loop = s.loop ∧ s.primeRamps.align = s.align ∧
    s.primeRamps.synth = s.synth ∧ s.primeRamps.raster = s.raster ∧ s.primeRamps.title = s.title ∧
    s.primeRamps.cue = s.cue ∧ s.primeRamps.bus = s.bus ∧ s.primeRamps.att = s.att ∧ s.primeRamps.pins = s.pins ∧
    s.primeRamps.choices = s.choices ∧ s.primeRamps.pending = s.pending := by
  simp [State.primeRamps]

/-! ### Cue unit -/

@[simp] theorem State.takeLatch_frame (o : Origin) (t : Time) :
    (s.takeLatch o t).timebase = s.timebase ∧ (s.takeLatch o t).rawCsync = s.rawCsync ∧
    (s.takeLatch o t).rawCue = s.rawCue ∧ (s.takeLatch o t).resetHeld = s.resetHeld ∧
    (s.takeLatch o t).bresetHeld = s.bresetHeld ∧ (s.takeLatch o t).setup = s.setup ∧
    (s.takeLatch o t).front = s.front ∧ (s.takeLatch o t).loop = s.loop ∧ (s.takeLatch o t).align = s.align ∧
    (s.takeLatch o t).synth = s.synth ∧ (s.takeLatch o t).raster = s.raster ∧ (s.takeLatch o t).title = s.title ∧
    (s.takeLatch o t).keyer = s.keyer ∧ (s.takeLatch o t).bus = s.bus ∧ (s.takeLatch o t).att = s.att ∧
    (s.takeLatch o t).pins = s.pins ∧ (s.takeLatch o t).choices = s.choices ∧
    (s.takeLatch o t).pending = s.pending := by
  simp [State.takeLatch]

@[simp] theorem State.fire_frame (t : Time) (e : Cue × Nat) :
    (s.fire t e).timebase = s.timebase ∧ (s.fire t e).rawCsync = s.rawCsync ∧ (s.fire t e).rawCue = s.rawCue ∧
    (s.fire t e).resetHeld = s.resetHeld ∧ (s.fire t e).bresetHeld = s.bresetHeld ∧ (s.fire t e).setup = s.setup ∧
    (s.fire t e).front = s.front ∧ (s.fire t e).loop = s.loop ∧ (s.fire t e).align = s.align ∧
    (s.fire t e).synth = s.synth ∧ (s.fire t e).raster = s.raster ∧ (s.fire t e).bus = s.bus ∧
    (s.fire t e).pins = s.pins ∧ (s.fire t e).choices = s.choices ∧ (s.fire t e).pending = s.pending := by
  unfold State.fire; split <;> simp

@[simp] theorem State.look_frame (d : Domain) (n : Nat) (p : Parity) (t : Time) :
    (s.look d n p t).timebase = s.timebase ∧ (s.look d n p t).rawCsync = s.rawCsync ∧
    (s.look d n p t).rawCue = s.rawCue ∧ (s.look d n p t).resetHeld = s.resetHeld ∧
    (s.look d n p t).bresetHeld = s.bresetHeld ∧ (s.look d n p t).setup = s.setup ∧
    (s.look d n p t).front = s.front ∧ (s.look d n p t).loop = s.loop ∧ (s.look d n p t).align = s.align ∧
    (s.look d n p t).synth = s.synth ∧ (s.look d n p t).raster = s.raster ∧ (s.look d n p t).bus = s.bus ∧
    (s.look d n p t).pins = s.pins ∧ (s.look d n p t).choices = s.choices ∧ (s.look d n p t).pending = s.pending := by
  simp only [State.look]
  generalize s.cue.fired d n p = l
  induction l generalizing s with
  | nil => simp
  | cons e l ih => simpa using ih (s.fire t e)

@[simp] theorem State.stepCounter_frame :
    s.stepCounter.timebase = s.timebase ∧ s.stepCounter.rawCsync = s.rawCsync ∧ s.stepCounter.rawCue = s.rawCue ∧
    s.stepCounter.resetHeld = s.resetHeld ∧ s.stepCounter.bresetHeld = s.bresetHeld ∧
    s.stepCounter.setup = s.setup ∧ s.stepCounter.front = s.front ∧ s.stepCounter.loop = s.loop ∧
    s.stepCounter.align = s.align ∧ s.stepCounter.synth = s.synth ∧ s.stepCounter.raster = s.raster ∧
    s.stepCounter.title = s.title ∧ s.stepCounter.keyer = s.keyer ∧ s.stepCounter.bus = s.bus ∧
    s.stepCounter.pins = s.pins ∧ s.stepCounter.choices = s.choices ∧ s.stepCounter.pending = s.pending := by
  unfold State.stepCounter; split <;> simp

@[simp] theorem State.fitCounter_frame :
    s.fitCounter.timebase = s.timebase ∧ s.fitCounter.rawCsync = s.rawCsync ∧ s.fitCounter.rawCue = s.rawCue ∧
    s.fitCounter.resetHeld = s.resetHeld ∧ s.fitCounter.bresetHeld = s.bresetHeld ∧ s.fitCounter.setup = s.setup ∧
    s.fitCounter.front = s.front ∧ s.fitCounter.loop = s.loop ∧ s.fitCounter.align = s.align ∧
    s.fitCounter.synth = s.synth ∧ s.fitCounter.raster = s.raster ∧ s.fitCounter.title = s.title ∧
    s.fitCounter.keyer = s.keyer ∧ s.fitCounter.bus = s.bus ∧ s.fitCounter.att = s.att ∧
    s.fitCounter.pins = s.pins ∧ s.fitCounter.choices = s.choices ∧ s.fitCounter.pending = s.pending := by
  simp [State.fitCounter]

@[simp] theorem State.actOnPulse_frame (t : Time) :
    (s.actOnPulse t).timebase = s.timebase ∧ (s.actOnPulse t).rawCsync = s.rawCsync ∧
    (s.actOnPulse t).rawCue = s.rawCue ∧ (s.actOnPulse t).resetHeld = s.resetHeld ∧
    (s.actOnPulse t).bresetHeld = s.bresetHeld ∧ (s.actOnPulse t).setup = s.setup ∧
    (s.actOnPulse t).front = s.front ∧ (s.actOnPulse t).loop = s.loop ∧ (s.actOnPulse t).align = s.align ∧
    (s.actOnPulse t).synth = s.synth ∧ (s.actOnPulse t).raster = s.raster ∧ (s.actOnPulse t).keyer = s.keyer ∧
    (s.actOnPulse t).bus = s.bus ∧ (s.actOnPulse t).pins = s.pins ∧ (s.actOnPulse t).choices = s.choices ∧
    (s.actOnPulse t).pending = s.pending := by
  unfold State.actOnPulse; repeat' split
  all_goals simp

@[simp] theorem State.cueRise_frame :
    s.cueRise.timebase = s.timebase ∧ s.cueRise.rawCsync = s.rawCsync ∧ s.cueRise.rawCue = s.rawCue ∧
    s.cueRise.resetHeld = s.resetHeld ∧ s.cueRise.bresetHeld = s.bresetHeld ∧ s.cueRise.setup = s.setup ∧
    s.cueRise.front = s.front ∧ s.cueRise.loop = s.loop ∧ s.cueRise.align = s.align ∧ s.cueRise.synth = s.synth ∧
    s.cueRise.raster = s.raster ∧ s.cueRise.keyer = s.keyer ∧ s.cueRise.bus = s.bus ∧ s.cueRise.pins = s.pins ∧
    s.cueRise.choices = s.choices ∧ s.cueRise.pending = s.pending := by
  unfold State.cueRise; split <;> simp

@[simp] theorem State.cueFall_frame :
    s.cueFall.timebase = s.timebase ∧ s.cueFall.rawCsync = s.rawCsync ∧ s.cueFall.rawCue = s.rawCue ∧
    s.cueFall.resetHeld = s.resetHeld ∧ s.cueFall.bresetHeld = s.bresetHeld ∧ s.cueFall.setup = s.setup ∧
    s.cueFall.front = s.front ∧ s.cueFall.loop = s.loop ∧ s.cueFall.align = s.align ∧ s.cueFall.synth = s.synth ∧
    s.cueFall.raster = s.raster ∧ s.cueFall.title = s.title ∧ s.cueFall.keyer = s.keyer ∧ s.cueFall.bus = s.bus ∧
    s.cueFall.att = s.att ∧ s.cueFall.pins = s.pins ∧ s.cueFall.choices = s.choices ∧
    s.cueFall.pending = s.pending := by
  unfold State.cueFall; split <;> simp

@[simp] theorem State.cueLevel_frame (l : Level) :
    (s.cueLevel l).timebase = s.timebase ∧ (s.cueLevel l).rawCsync = s.rawCsync ∧
    (s.cueLevel l).resetHeld = s.resetHeld ∧ (s.cueLevel l).bresetHeld = s.bresetHeld ∧
    (s.cueLevel l).setup = s.setup ∧ (s.cueLevel l).front = s.front ∧ (s.cueLevel l).loop = s.loop ∧
    (s.cueLevel l).align = s.align ∧ (s.cueLevel l).synth = s.synth ∧ (s.cueLevel l).raster = s.raster ∧
    (s.cueLevel l).title = s.title ∧ (s.cueLevel l).keyer = s.keyer ∧ (s.cueLevel l).bus = s.bus ∧
    (s.cueLevel l).att = s.att ∧ (s.cueLevel l).pins = s.pins ∧ (s.cueLevel l).choices = s.choices ∧
    (s.cueLevel l).pending = s.pending := by
  simp [State.cueLevel]

/-! ### Frame aligner -/

@[simp] theorem State.startSlew_frame (delta : Int) :
    (s.startSlew delta).timebase = s.timebase ∧ (s.startSlew delta).rawCsync = s.rawCsync ∧
    (s.startSlew delta).rawCue = s.rawCue ∧ (s.startSlew delta).resetHeld = s.resetHeld ∧
    (s.startSlew delta).bresetHeld = s.bresetHeld ∧ (s.startSlew delta).setup = s.setup ∧
    (s.startSlew delta).front = s.front ∧ (s.startSlew delta).synth = s.synth ∧
    (s.startSlew delta).raster = s.raster ∧ (s.startSlew delta).title = s.title ∧
    (s.startSlew delta).keyer = s.keyer ∧ (s.startSlew delta).cue = s.cue ∧ (s.startSlew delta).bus = s.bus ∧
    (s.startSlew delta).att = s.att ∧ (s.startSlew delta).pins = s.pins ∧
    (s.startSlew delta).choices = s.choices ∧ (s.startSlew delta).pending = s.pending := by
  simp [State.startSlew, State.enter]

@[simp] theorem State.frameCheck_frame :
    s.frameCheck.timebase = s.timebase ∧ s.frameCheck.rawCsync = s.rawCsync ∧ s.frameCheck.rawCue = s.rawCue ∧
    s.frameCheck.resetHeld = s.resetHeld ∧ s.frameCheck.bresetHeld = s.bresetHeld ∧ s.frameCheck.setup = s.setup ∧
    s.frameCheck.front = s.front ∧ s.frameCheck.synth = s.synth ∧ s.frameCheck.raster = s.raster ∧
    s.frameCheck.title = s.title ∧ s.frameCheck.keyer = s.keyer ∧ s.frameCheck.cue = s.cue ∧
    s.frameCheck.bus = s.bus ∧ s.frameCheck.att = s.att ∧ s.frameCheck.pins = s.pins ∧
    s.frameCheck.choices = s.choices ∧ s.frameCheck.pending = s.pending := by
  unfold State.frameCheck; repeat' split
  all_goals simp

@[simp] theorem State.slewLine_frame :
    s.slewLine.timebase = s.timebase ∧ s.slewLine.rawCsync = s.rawCsync ∧ s.slewLine.rawCue = s.rawCue ∧
    s.slewLine.resetHeld = s.resetHeld ∧ s.slewLine.bresetHeld = s.bresetHeld ∧ s.slewLine.setup = s.setup ∧
    s.slewLine.raster = s.raster ∧ s.slewLine.title = s.title ∧ s.slewLine.keyer = s.keyer ∧
    s.slewLine.cue = s.cue ∧ s.slewLine.bus = s.bus ∧ s.slewLine.pins = s.pins ∧ s.slewLine.choices = s.choices ∧
    s.slewLine.pending = s.pending := by
  unfold State.slewLine; split
  · dsimp only; split <;> simp
  · simp

/-! ### Sync front end -/

@[simp] theorem State.onAccum_frame (f : FieldMeasure → FieldMeasure) :
    (s.onAccum f).timebase = s.timebase ∧ (s.onAccum f).rawCsync = s.rawCsync ∧ (s.onAccum f).rawCue = s.rawCue ∧
    (s.onAccum f).resetHeld = s.resetHeld ∧ (s.onAccum f).bresetHeld = s.bresetHeld ∧
    (s.onAccum f).setup = s.setup ∧ (s.onAccum f).loop = s.loop ∧ (s.onAccum f).align = s.align ∧
    (s.onAccum f).synth = s.synth ∧ (s.onAccum f).raster = s.raster ∧ (s.onAccum f).title = s.title ∧
    (s.onAccum f).keyer = s.keyer ∧ (s.onAccum f).cue = s.cue ∧ (s.onAccum f).bus = s.bus ∧
    (s.onAccum f).att = s.att ∧ (s.onAccum f).pins = s.pins ∧ (s.onAccum f).choices = s.choices ∧
    (s.onAccum f).pending = s.pending := by
  simp [State.onAccum]

@[simp] theorem State.broadcastLine_frame (t : Time) :
    (s.broadcastLine t).timebase = s.timebase ∧ (s.broadcastLine t).rawCsync = s.rawCsync ∧
    (s.broadcastLine t).rawCue = s.rawCue ∧ (s.broadcastLine t).resetHeld = s.resetHeld ∧
    (s.broadcastLine t).bresetHeld = s.bresetHeld ∧ (s.broadcastLine t).setup = s.setup ∧
    (s.broadcastLine t).loop = s.loop ∧ (s.broadcastLine t).align = s.align ∧
    (s.broadcastLine t).synth = s.synth ∧ (s.broadcastLine t).raster = s.raster ∧
    (s.broadcastLine t).bus = s.bus ∧ (s.broadcastLine t).pins = s.pins ∧
    (s.broadcastLine t).choices = s.choices ∧ (s.broadcastLine t).pending = s.pending := by
  unfold State.broadcastLine; dsimp only; split <;> simp

@[simp] theorem State.forceLine_frame (v : Nat) :
    (s.forceLine v).timebase = s.timebase ∧ (s.forceLine v).rawCsync = s.rawCsync ∧
    (s.forceLine v).rawCue = s.rawCue ∧ (s.forceLine v).resetHeld = s.resetHeld ∧
    (s.forceLine v).bresetHeld = s.bresetHeld ∧ (s.forceLine v).setup = s.setup ∧ (s.forceLine v).loop = s.loop ∧
    (s.forceLine v).align = s.align ∧ (s.forceLine v).synth = s.synth ∧ (s.forceLine v).raster = s.raster ∧
    (s.forceLine v).title = s.title ∧ (s.forceLine v).keyer = s.keyer ∧ (s.forceLine v).cue = s.cue ∧
    (s.forceLine v).bus = s.bus ∧ (s.forceLine v).pins = s.pins ∧ (s.forceLine v).choices = s.choices ∧
    (s.forceLine v).pending = s.pending := by
  simp [State.forceLine]

@[simp] theorem State.completeField_frame (p : Parity) :
    (s.completeField p).timebase = s.timebase ∧ (s.completeField p).rawCsync = s.rawCsync ∧
    (s.completeField p).rawCue = s.rawCue ∧ (s.completeField p).resetHeld = s.resetHeld ∧
    (s.completeField p).bresetHeld = s.bresetHeld ∧ (s.completeField p).setup = s.setup ∧
    (s.completeField p).loop = s.loop ∧ (s.completeField p).align = s.align ∧
    (s.completeField p).synth = s.synth ∧ (s.completeField p).raster = s.raster ∧
    (s.completeField p).title = s.title ∧ (s.completeField p).keyer = s.keyer ∧ (s.completeField p).cue = s.cue ∧
    (s.completeField p).bus = s.bus ∧ (s.completeField p).att = s.att ∧ (s.completeField p).pins = s.pins ∧
    (s.completeField p).choices = s.choices ∧ (s.completeField p).pending = s.pending := by
  simp [State.completeField]

@[simp] theorem State.skipCheck_frame (t : Time) :
    (s.skipCheck t).timebase = s.timebase ∧ (s.skipCheck t).rawCsync = s.rawCsync ∧
    (s.skipCheck t).rawCue = s.rawCue ∧ (s.skipCheck t).resetHeld = s.resetHeld ∧
    (s.skipCheck t).bresetHeld = s.bresetHeld ∧ (s.skipCheck t).setup = s.setup ∧
    (s.skipCheck t).front = s.front ∧ (s.skipCheck t).loop = s.loop ∧ (s.skipCheck t).synth = s.synth ∧
    (s.skipCheck t).raster = s.raster ∧ (s.skipCheck t).title = s.title ∧ (s.skipCheck t).keyer = s.keyer ∧
    (s.skipCheck t).cue = s.cue ∧ (s.skipCheck t).bus = s.bus ∧ (s.skipCheck t).att = s.att ∧
    (s.skipCheck t).pins = s.pins ∧ (s.skipCheck t).choices = s.choices ∧ (s.skipCheck t).pending = s.pending := by
  unfold State.skipCheck; split <;> simp

@[simp] theorem State.fieldStart_frame (t : Time) :
    (s.fieldStart t).timebase = s.timebase ∧ (s.fieldStart t).rawCsync = s.rawCsync ∧
    (s.fieldStart t).rawCue = s.rawCue ∧ (s.fieldStart t).resetHeld = s.resetHeld ∧
    (s.fieldStart t).bresetHeld = s.bresetHeld ∧ (s.fieldStart t).setup = s.setup ∧
    (s.fieldStart t).synth = s.synth ∧ (s.fieldStart t).raster = s.raster ∧ (s.fieldStart t).title = s.title ∧
    (s.fieldStart t).keyer = s.keyer ∧ (s.fieldStart t).cue = s.cue ∧ (s.fieldStart t).bus = s.bus ∧
    (s.fieldStart t).pins = s.pins ∧ (s.fieldStart t).choices = s.choices ∧ (s.fieldStart t).pending = s.pending := by
  unfold State.fieldStart; split
  · dsimp only; split <;> simp
  · simp

@[simp] theorem State.detect_frame (p : Pulse) :
    (s.detect p).timebase = s.timebase ∧ (s.detect p).rawCsync = s.rawCsync ∧ (s.detect p).rawCue = s.rawCue ∧
    (s.detect p).resetHeld = s.resetHeld ∧ (s.detect p).bresetHeld = s.bresetHeld ∧ (s.detect p).setup = s.setup ∧
    (s.detect p).synth = s.synth ∧ (s.detect p).raster = s.raster ∧ (s.detect p).title = s.title ∧
    (s.detect p).keyer = s.keyer ∧ (s.detect p).cue = s.cue ∧ (s.detect p).bus = s.bus ∧
    (s.detect p).pins = s.pins ∧ (s.detect p).choices = s.choices ∧ (s.detect p).pending = s.pending := by
  unfold State.detect; split
  · dsimp only; split <;> simp
  · simp

@[simp] theorem State.enqueuePulse_frame (p : Pulse) :
    (s.enqueuePulse p).timebase = s.timebase ∧ (s.enqueuePulse p).rawCsync = s.rawCsync ∧
    (s.enqueuePulse p).rawCue = s.rawCue ∧ (s.enqueuePulse p).resetHeld = s.resetHeld ∧
    (s.enqueuePulse p).bresetHeld = s.bresetHeld ∧ (s.enqueuePulse p).setup = s.setup ∧
    (s.enqueuePulse p).loop = s.loop ∧ (s.enqueuePulse p).align = s.align ∧ (s.enqueuePulse p).synth = s.synth ∧
    (s.enqueuePulse p).raster = s.raster ∧ (s.enqueuePulse p).title = s.title ∧
    (s.enqueuePulse p).keyer = s.keyer ∧ (s.enqueuePulse p).cue = s.cue ∧ (s.enqueuePulse p).bus = s.bus ∧
    (s.enqueuePulse p).pins = s.pins ∧ (s.enqueuePulse p).choices = s.choices ∧
    (s.enqueuePulse p).pending = s.pending := by
  unfold State.enqueuePulse; split <;> simp

@[simp] theorem State.completePulse_frame (p : Pulse) :
    (s.completePulse p).timebase = s.timebase ∧ (s.completePulse p).rawCsync = s.rawCsync ∧
    (s.completePulse p).rawCue = s.rawCue ∧ (s.completePulse p).resetHeld = s.resetHeld ∧
    (s.completePulse p).bresetHeld = s.bresetHeld ∧ (s.completePulse p).setup = s.setup ∧
    (s.completePulse p).synth = s.synth ∧ (s.completePulse p).raster = s.raster ∧
    (s.completePulse p).title = s.title ∧ (s.completePulse p).keyer = s.keyer ∧ (s.completePulse p).cue = s.cue ∧
    (s.completePulse p).bus = s.bus ∧ (s.completePulse p).pins = s.pins ∧
    (s.completePulse p).choices = s.choices ∧ (s.completePulse p).pending = s.pending := by
  simp [State.completePulse]

@[simp] theorem State.csyncFall_frame :
    s.csyncFall.timebase = s.timebase ∧ s.csyncFall.rawCsync = s.rawCsync ∧ s.csyncFall.rawCue = s.rawCue ∧
    s.csyncFall.resetHeld = s.resetHeld ∧ s.csyncFall.bresetHeld = s.bresetHeld ∧ s.csyncFall.setup = s.setup ∧
    s.csyncFall.loop = s.loop ∧ s.csyncFall.align = s.align ∧ s.csyncFall.synth = s.synth ∧
    s.csyncFall.raster = s.raster ∧ s.csyncFall.title = s.title ∧ s.csyncFall.keyer = s.keyer ∧
    s.csyncFall.cue = s.cue ∧ s.csyncFall.bus = s.bus ∧ s.csyncFall.att = s.att ∧ s.csyncFall.pins = s.pins ∧
    s.csyncFall.choices = s.choices ∧ s.csyncFall.pending = s.pending := by
  unfold State.csyncFall; split <;> simp

@[simp] theorem State.csyncRise_frame :
    s.csyncRise.timebase = s.timebase ∧ s.csyncRise.rawCsync = s.rawCsync ∧ s.csyncRise.rawCue = s.rawCue ∧
    s.csyncRise.resetHeld = s.resetHeld ∧ s.csyncRise.bresetHeld = s.bresetHeld ∧ s.csyncRise.setup = s.setup ∧
    s.csyncRise.synth = s.synth ∧ s.csyncRise.raster = s.raster ∧ s.csyncRise.title = s.title ∧
    s.csyncRise.keyer = s.keyer ∧ s.csyncRise.cue = s.cue ∧ s.csyncRise.bus = s.bus ∧ s.csyncRise.pins = s.pins ∧
    s.csyncRise.choices = s.choices ∧ s.csyncRise.pending = s.pending := by
  unfold State.csyncRise; split
  · dsimp only; split <;> simp
  · simp

@[simp] theorem State.saturate_frame :
    s.saturate.timebase = s.timebase ∧ s.saturate.rawCsync = s.rawCsync ∧ s.saturate.rawCue = s.rawCue ∧
    s.saturate.resetHeld = s.resetHeld ∧ s.saturate.bresetHeld = s.bresetHeld ∧ s.saturate.setup = s.setup ∧
    s.saturate.synth = s.synth ∧ s.saturate.raster = s.raster ∧ s.saturate.title = s.title ∧
    s.saturate.keyer = s.keyer ∧ s.saturate.cue = s.cue ∧ s.saturate.bus = s.bus ∧ s.saturate.pins = s.pins ∧
    s.saturate.choices = s.choices ∧ s.saturate.pending = s.pending := by
  unfold State.saturate; split
  · split <;> simp
  · simp

@[simp] theorem State.csyncLevel_frame (l : Level) :
    (s.csyncLevel l).timebase = s.timebase ∧ (s.csyncLevel l).rawCue = s.rawCue ∧
    (s.csyncLevel l).resetHeld = s.resetHeld ∧ (s.csyncLevel l).bresetHeld = s.bresetHeld ∧
    (s.csyncLevel l).setup = s.setup ∧ (s.csyncLevel l).loop = s.loop ∧ (s.csyncLevel l).align = s.align ∧
    (s.csyncLevel l).synth = s.synth ∧ (s.csyncLevel l).raster = s.raster ∧ (s.csyncLevel l).title = s.title ∧
    (s.csyncLevel l).keyer = s.keyer ∧ (s.csyncLevel l).cue = s.cue ∧ (s.csyncLevel l).bus = s.bus ∧
    (s.csyncLevel l).att = s.att ∧ (s.csyncLevel l).pins = s.pins ∧ (s.csyncLevel l).choices = s.choices ∧
    (s.csyncLevel l).pending = s.pending := by
  simp [State.csyncLevel]

/-! ### Line lock loop -/

@[simp] theorem State.countHoldover_frame :
    s.countHoldover.timebase = s.timebase ∧ s.countHoldover.rawCsync = s.rawCsync ∧
    s.countHoldover.rawCue = s.rawCue ∧ s.countHoldover.resetHeld = s.resetHeld ∧
    s.countHoldover.bresetHeld = s.bresetHeld ∧ s.countHoldover.setup = s.setup ∧
    s.countHoldover.front = s.front ∧ s.countHoldover.align = s.align ∧ s.countHoldover.synth = s.synth ∧
    s.countHoldover.raster = s.raster ∧ s.countHoldover.title = s.title ∧ s.countHoldover.keyer = s.keyer ∧
    s.countHoldover.cue = s.cue ∧ s.countHoldover.bus = s.bus ∧ s.countHoldover.att = s.att ∧
    s.countHoldover.pins = s.pins ∧ s.countHoldover.choices = s.choices ∧ s.countHoldover.pending = s.pending := by
  unfold State.countHoldover; split <;> simp

@[simp] theorem State.closeLine_frame (t : Time) :
    (s.closeLine t).timebase = s.timebase ∧ (s.closeLine t).rawCsync = s.rawCsync ∧
    (s.closeLine t).rawCue = s.rawCue ∧ (s.closeLine t).resetHeld = s.resetHeld ∧
    (s.closeLine t).bresetHeld = s.bresetHeld ∧ (s.closeLine t).setup = s.setup ∧
    (s.closeLine t).align = s.align ∧ (s.closeLine t).synth = s.synth ∧ (s.closeLine t).raster = s.raster ∧
    (s.closeLine t).bus = s.bus ∧ (s.closeLine t).pins = s.pins ∧ (s.closeLine t).choices = s.choices ∧
    (s.closeLine t).pending = s.pending := by
  simp [State.closeLine]

@[simp] theorem State.closeIfDue_frame :
    s.closeIfDue.timebase = s.timebase ∧ s.closeIfDue.rawCsync = s.rawCsync ∧ s.closeIfDue.rawCue = s.rawCue ∧
    s.closeIfDue.resetHeld = s.resetHeld ∧ s.closeIfDue.bresetHeld = s.bresetHeld ∧ s.closeIfDue.setup = s.setup ∧
    s.closeIfDue.align = s.align ∧ s.closeIfDue.synth = s.synth ∧ s.closeIfDue.raster = s.raster ∧
    s.closeIfDue.bus = s.bus ∧ s.closeIfDue.pins = s.pins ∧ s.closeIfDue.choices = s.choices ∧
    s.closeIfDue.pending = s.pending := by
  unfold State.closeIfDue; split <;> simp

@[simp] theorem State.update_frame (e : Int) :
    (s.update e).timebase = s.timebase ∧ (s.update e).rawCsync = s.rawCsync ∧ (s.update e).rawCue = s.rawCue ∧
    (s.update e).resetHeld = s.resetHeld ∧ (s.update e).bresetHeld = s.bresetHeld ∧ (s.update e).setup = s.setup ∧
    (s.update e).align = s.align ∧ (s.update e).raster = s.raster ∧ (s.update e).title = s.title ∧
    (s.update e).keyer = s.keyer ∧ (s.update e).cue = s.cue ∧ (s.update e).bus = s.bus ∧
    (s.update e).att = s.att ∧ (s.update e).pins = s.pins ∧ (s.update e).choices = s.choices ∧
    (s.update e).pending = s.pending := by
  simp [State.update]

@[simp] theorem State.moveLock_frame (e : Int) :
    (s.moveLock e).timebase = s.timebase ∧ (s.moveLock e).rawCsync = s.rawCsync ∧
    (s.moveLock e).rawCue = s.rawCue ∧ (s.moveLock e).resetHeld = s.resetHeld ∧
    (s.moveLock e).bresetHeld = s.bresetHeld ∧ (s.moveLock e).setup = s.setup ∧ (s.moveLock e).front = s.front ∧
    (s.moveLock e).align = s.align ∧ (s.moveLock e).synth = s.synth ∧ (s.moveLock e).raster = s.raster ∧
    (s.moveLock e).title = s.title ∧ (s.moveLock e).keyer = s.keyer ∧ (s.moveLock e).cue = s.cue ∧
    (s.moveLock e).bus = s.bus ∧ (s.moveLock e).pins = s.pins ∧ (s.moveLock e).choices = s.choices ∧
    (s.moveLock e).pending = s.pending := by
  unfold State.moveLock; dsimp only; repeat' split
  all_goals simp [State.enter]

@[simp] theorem State.moveUnlock_frame (e : Int) :
    (s.moveUnlock e).timebase = s.timebase ∧ (s.moveUnlock e).rawCsync = s.rawCsync ∧
    (s.moveUnlock e).rawCue = s.rawCue ∧ (s.moveUnlock e).resetHeld = s.resetHeld ∧
    (s.moveUnlock e).bresetHeld = s.bresetHeld ∧ (s.moveUnlock e).setup = s.setup ∧
    (s.moveUnlock e).front = s.front ∧ (s.moveUnlock e).align = s.align ∧ (s.moveUnlock e).synth = s.synth ∧
    (s.moveUnlock e).raster = s.raster ∧ (s.moveUnlock e).title = s.title ∧ (s.moveUnlock e).keyer = s.keyer ∧
    (s.moveUnlock e).cue = s.cue ∧ (s.moveUnlock e).bus = s.bus ∧ (s.moveUnlock e).att = s.att ∧
    (s.moveUnlock e).pins = s.pins ∧ (s.moveUnlock e).choices = s.choices ∧ (s.moveUnlock e).pending = s.pending := by
  unfold State.moveUnlock; dsimp only; repeat' split
  all_goals simp [State.enter]

@[simp] theorem State.moveReturn_frame :
    s.moveReturn.timebase = s.timebase ∧ s.moveReturn.rawCsync = s.rawCsync ∧ s.moveReturn.rawCue = s.rawCue ∧
    s.moveReturn.resetHeld = s.resetHeld ∧ s.moveReturn.bresetHeld = s.bresetHeld ∧ s.moveReturn.setup = s.setup ∧
    s.moveReturn.front = s.front ∧ s.moveReturn.align = s.align ∧ s.moveReturn.synth = s.synth ∧
    s.moveReturn.raster = s.raster ∧ s.moveReturn.title = s.title ∧ s.moveReturn.keyer = s.keyer ∧
    s.moveReturn.cue = s.cue ∧ s.moveReturn.bus = s.bus ∧ s.moveReturn.att = s.att ∧ s.moveReturn.pins = s.pins ∧
    s.moveReturn.pending = s.pending := by
  unfold State.moveReturn; dsimp only; repeat' split
  all_goals simp [State.enter]

@[simp] theorem State.takeInterval_frame (t : Time) (n : Nat) :
    (s.takeInterval t n).timebase = s.timebase ∧ (s.takeInterval t n).rawCsync = s.rawCsync ∧
    (s.takeInterval t n).rawCue = s.rawCue ∧ (s.takeInterval t n).resetHeld = s.resetHeld ∧
    (s.takeInterval t n).bresetHeld = s.bresetHeld ∧ (s.takeInterval t n).setup = s.setup ∧
    (s.takeInterval t n).align = s.align ∧ (s.takeInterval t n).synth = s.synth ∧
    (s.takeInterval t n).raster = s.raster ∧ (s.takeInterval t n).title = s.title ∧
    (s.takeInterval t n).keyer = s.keyer ∧ (s.takeInterval t n).cue = s.cue ∧ (s.takeInterval t n).bus = s.bus ∧
    (s.takeInterval t n).att = s.att ∧ (s.takeInterval t n).pins = s.pins ∧
    (s.takeInterval t n).choices = s.choices ∧ (s.takeInterval t n).pending = s.pending := by
  unfold State.takeInterval; split <;> simp

@[simp] theorem State.takeEdge_frame (t : Time) (n : Nat) :
    (s.takeEdge t n).timebase = s.timebase ∧ (s.takeEdge t n).rawCsync = s.rawCsync ∧
    (s.takeEdge t n).rawCue = s.rawCue ∧ (s.takeEdge t n).resetHeld = s.resetHeld ∧
    (s.takeEdge t n).bresetHeld = s.bresetHeld ∧ (s.takeEdge t n).setup = s.setup ∧
    (s.takeEdge t n).front = s.front ∧ (s.takeEdge t n).align = s.align ∧ (s.takeEdge t n).synth = s.synth ∧
    (s.takeEdge t n).raster = s.raster ∧ (s.takeEdge t n).title = s.title ∧ (s.takeEdge t n).keyer = s.keyer ∧
    (s.takeEdge t n).cue = s.cue ∧ (s.takeEdge t n).bus = s.bus ∧ (s.takeEdge t n).att = s.att ∧
    (s.takeEdge t n).pins = s.pins ∧ (s.takeEdge t n).choices = s.choices ∧ (s.takeEdge t n).pending = s.pending := by
  simp [State.takeEdge]

@[simp] theorem State.settleEdge_frame (t : Time) :
    (s.settleEdge t).timebase = s.timebase ∧ (s.settleEdge t).rawCsync = s.rawCsync ∧
    (s.settleEdge t).rawCue = s.rawCue ∧ (s.settleEdge t).resetHeld = s.resetHeld ∧
    (s.settleEdge t).bresetHeld = s.bresetHeld ∧ (s.settleEdge t).setup = s.setup ∧
    (s.settleEdge t).align = s.align ∧ (s.settleEdge t).raster = s.raster ∧ (s.settleEdge t).title = s.title ∧
    (s.settleEdge t).keyer = s.keyer ∧ (s.settleEdge t).cue = s.cue ∧ (s.settleEdge t).bus = s.bus ∧
    (s.settleEdge t).pins = s.pins ∧ (s.settleEdge t).pending = s.pending := by
  unfold State.settleEdge; dsimp only; split <;> simp

@[simp] theorem State.clearMissed_frame :
    s.clearMissed.timebase = s.timebase ∧ s.clearMissed.rawCsync = s.rawCsync ∧ s.clearMissed.rawCue = s.rawCue ∧
    s.clearMissed.resetHeld = s.resetHeld ∧ s.clearMissed.bresetHeld = s.bresetHeld ∧
    s.clearMissed.setup = s.setup ∧ s.clearMissed.front = s.front ∧ s.clearMissed.align = s.align ∧
    s.clearMissed.synth = s.synth ∧ s.clearMissed.raster = s.raster ∧ s.clearMissed.title = s.title ∧
    s.clearMissed.keyer = s.keyer ∧ s.clearMissed.cue = s.cue ∧ s.clearMissed.bus = s.bus ∧
    s.clearMissed.att = s.att ∧ s.clearMissed.pins = s.pins ∧ s.clearMissed.choices = s.choices ∧
    s.clearMissed.pending = s.pending := by
  unfold State.clearMissed; split <;> simp

@[simp] theorem State.acceptEdge_frame (t : Time) (o : OpenLine) :
    (s.acceptEdge t o).timebase = s.timebase ∧ (s.acceptEdge t o).rawCsync = s.rawCsync ∧
    (s.acceptEdge t o).rawCue = s.rawCue ∧ (s.acceptEdge t o).resetHeld = s.resetHeld ∧
    (s.acceptEdge t o).bresetHeld = s.bresetHeld ∧ (s.acceptEdge t o).setup = s.setup ∧
    (s.acceptEdge t o).align = s.align ∧ (s.acceptEdge t o).raster = s.raster ∧ (s.acceptEdge t o).bus = s.bus ∧
    (s.acceptEdge t o).pins = s.pins ∧ (s.acceptEdge t o).pending = s.pending := by
  unfold State.acceptEdge; dsimp only; split <;> simp

@[simp] theorem State.rephase_frame (t : Time) (n : Nat) :
    (s.rephase t n).timebase = s.timebase ∧ (s.rephase t n).rawCsync = s.rawCsync ∧
    (s.rephase t n).rawCue = s.rawCue ∧ (s.rephase t n).resetHeld = s.resetHeld ∧
    (s.rephase t n).bresetHeld = s.bresetHeld ∧ (s.rephase t n).setup = s.setup ∧
    (s.rephase t n).front = s.front ∧ (s.rephase t n).align = s.align ∧ (s.rephase t n).synth = s.synth ∧
    (s.rephase t n).raster = s.raster ∧ (s.rephase t n).title = s.title ∧ (s.rephase t n).keyer = s.keyer ∧
    (s.rephase t n).cue = s.cue ∧ (s.rephase t n).bus = s.bus ∧ (s.rephase t n).pins = s.pins ∧
    (s.rephase t n).choices = s.choices ∧ (s.rephase t n).pending = s.pending := by
  simp [State.rephase, State.enter]

@[simp] theorem State.addCandidate_frame (t : Time) (off : Int) (n : Nat) :
    (s.addCandidate t off n).timebase = s.timebase ∧ (s.addCandidate t off n).rawCsync = s.rawCsync ∧
    (s.addCandidate t off n).rawCue = s.rawCue ∧ (s.addCandidate t off n).resetHeld = s.resetHeld ∧
    (s.addCandidate t off n).bresetHeld = s.bresetHeld ∧ (s.addCandidate t off n).setup = s.setup ∧
    (s.addCandidate t off n).align = s.align ∧ (s.addCandidate t off n).synth = s.synth ∧
    (s.addCandidate t off n).raster = s.raster ∧ (s.addCandidate t off n).title = s.title ∧
    (s.addCandidate t off n).keyer = s.keyer ∧ (s.addCandidate t off n).cue = s.cue ∧
    (s.addCandidate t off n).bus = s.bus ∧ (s.addCandidate t off n).pins = s.pins ∧
    (s.addCandidate t off n).choices = s.choices ∧ (s.addCandidate t off n).pending = s.pending := by
  unfold State.addCandidate; dsimp only; split <;> simp

@[simp] theorem State.normalEdge_frame (t : Time) (o : OpenLine) :
    (s.normalEdge t o).timebase = s.timebase ∧ (s.normalEdge t o).rawCsync = s.rawCsync ∧
    (s.normalEdge t o).rawCue = s.rawCue ∧ (s.normalEdge t o).resetHeld = s.resetHeld ∧
    (s.normalEdge t o).bresetHeld = s.bresetHeld ∧ (s.normalEdge t o).setup = s.setup ∧
    (s.normalEdge t o).align = s.align ∧ (s.normalEdge t o).raster = s.raster ∧ (s.normalEdge t o).bus = s.bus ∧
    (s.normalEdge t o).pins = s.pins ∧ (s.normalEdge t o).pending = s.pending := by
  unfold State.normalEdge; split <;> simp

@[simp] theorem State.wideEdge_frame (t : Time) (off : Int) (o : OpenLine) :
    (s.wideEdge t off o).timebase = s.timebase ∧ (s.wideEdge t off o).rawCsync = s.rawCsync ∧
    (s.wideEdge t off o).rawCue = s.rawCue ∧ (s.wideEdge t off o).resetHeld = s.resetHeld ∧
    (s.wideEdge t off o).bresetHeld = s.bresetHeld ∧ (s.wideEdge t off o).setup = s.setup ∧
    (s.wideEdge t off o).align = s.align ∧ (s.wideEdge t off o).raster = s.raster ∧
    (s.wideEdge t off o).bus = s.bus ∧ (s.wideEdge t off o).pins = s.pins ∧
    (s.wideEdge t off o).pending = s.pending := by
  unfold State.wideEdge; split <;> simp

@[simp] theorem State.judgeRecord_frame (p : Pulse) (o : OpenLine) :
    (s.judgeRecord p o).timebase = s.timebase ∧ (s.judgeRecord p o).rawCsync = s.rawCsync ∧
    (s.judgeRecord p o).rawCue = s.rawCue ∧ (s.judgeRecord p o).resetHeld = s.resetHeld ∧
    (s.judgeRecord p o).bresetHeld = s.bresetHeld ∧ (s.judgeRecord p o).setup = s.setup ∧
    (s.judgeRecord p o).align = s.align ∧ (s.judgeRecord p o).raster = s.raster ∧
    (s.judgeRecord p o).bus = s.bus ∧ (s.judgeRecord p o).pins = s.pins ∧
    (s.judgeRecord p o).pending = s.pending := by
  unfold State.judgeRecord; split
  · simp
  · simp
  · dsimp only; repeat' split
    all_goals simp

@[simp] theorem State.seekRecord_frame (p : Pulse) :
    (s.seekRecord p).timebase = s.timebase ∧ (s.seekRecord p).rawCsync = s.rawCsync ∧
    (s.seekRecord p).rawCue = s.rawCue ∧ (s.seekRecord p).resetHeld = s.resetHeld ∧
    (s.seekRecord p).bresetHeld = s.bresetHeld ∧ (s.seekRecord p).setup = s.setup ∧
    (s.seekRecord p).front = s.front ∧ (s.seekRecord p).align = s.align ∧ (s.seekRecord p).synth = s.synth ∧
    (s.seekRecord p).raster = s.raster ∧ (s.seekRecord p).title = s.title ∧ (s.seekRecord p).keyer = s.keyer ∧
    (s.seekRecord p).cue = s.cue ∧ (s.seekRecord p).bus = s.bus ∧ (s.seekRecord p).att = s.att ∧
    (s.seekRecord p).pins = s.pins ∧ (s.seekRecord p).choices = s.choices ∧ (s.seekRecord p).pending = s.pending := by
  unfold State.seekRecord; repeat' split
  all_goals simp

@[simp] theorem State.takeRecord_frame (p : Pulse) :
    (s.takeRecord p).timebase = s.timebase ∧ (s.takeRecord p).rawCsync = s.rawCsync ∧
    (s.takeRecord p).rawCue = s.rawCue ∧ (s.takeRecord p).resetHeld = s.resetHeld ∧
    (s.takeRecord p).bresetHeld = s.bresetHeld ∧ (s.takeRecord p).setup = s.setup ∧
    (s.takeRecord p).align = s.align ∧ (s.takeRecord p).raster = s.raster ∧ (s.takeRecord p).bus = s.bus ∧
    (s.takeRecord p).pins = s.pins ∧ (s.takeRecord p).pending = s.pending := by
  unfold State.takeRecord; repeat' split
  all_goals simp

@[simp] theorem State.takeHead_frame :
    s.takeHead.timebase = s.timebase ∧ s.takeHead.rawCsync = s.rawCsync ∧ s.takeHead.rawCue = s.rawCue ∧
    s.takeHead.resetHeld = s.resetHeld ∧ s.takeHead.bresetHeld = s.bresetHeld ∧ s.takeHead.setup = s.setup ∧
    s.takeHead.align = s.align ∧ s.takeHead.raster = s.raster ∧ s.takeHead.bus = s.bus ∧
    s.takeHead.pins = s.pins ∧ s.takeHead.pending = s.pending := by
  unfold State.takeHead; repeat' split
  all_goals simp

@[simp] theorem State.addEdgeless_frame :
    s.addEdgeless.timebase = s.timebase ∧ s.addEdgeless.rawCsync = s.rawCsync ∧ s.addEdgeless.rawCue = s.rawCue ∧
    s.addEdgeless.resetHeld = s.resetHeld ∧ s.addEdgeless.bresetHeld = s.bresetHeld ∧
    s.addEdgeless.setup = s.setup ∧ s.addEdgeless.front = s.front ∧ s.addEdgeless.align = s.align ∧
    s.addEdgeless.synth = s.synth ∧ s.addEdgeless.raster = s.raster ∧ s.addEdgeless.title = s.title ∧
    s.addEdgeless.keyer = s.keyer ∧ s.addEdgeless.cue = s.cue ∧ s.addEdgeless.bus = s.bus ∧
    s.addEdgeless.att = s.att ∧ s.addEdgeless.pins = s.pins ∧ s.addEdgeless.choices = s.choices ∧
    s.addEdgeless.pending = s.pending := by
  simp [State.addEdgeless]

@[simp] theorem State.countMissed_frame :
    s.countMissed.timebase = s.timebase ∧ s.countMissed.rawCsync = s.rawCsync ∧ s.countMissed.rawCue = s.rawCue ∧
    s.countMissed.resetHeld = s.resetHeld ∧ s.countMissed.bresetHeld = s.bresetHeld ∧
    s.countMissed.setup = s.setup ∧ s.countMissed.front = s.front ∧ s.countMissed.align = s.align ∧
    s.countMissed.raster = s.raster ∧ s.countMissed.title = s.title ∧ s.countMissed.keyer = s.keyer ∧
    s.countMissed.cue = s.cue ∧ s.countMissed.bus = s.bus ∧ s.countMissed.att = s.att ∧
    s.countMissed.pins = s.pins ∧ s.countMissed.choices = s.choices ∧ s.countMissed.pending = s.pending := by
  unfold State.countMissed; split
  · dsimp only; split <;> simp [State.enter]
  · dsimp only; split <;> simp [State.enter]
  · simp
  · simp

@[simp] theorem State.settleAs_frame (o : OpenLine) :
    (s.settleAs o).timebase = s.timebase ∧ (s.settleAs o).rawCsync = s.rawCsync ∧
    (s.settleAs o).rawCue = s.rawCue ∧ (s.settleAs o).resetHeld = s.resetHeld ∧
    (s.settleAs o).bresetHeld = s.bresetHeld ∧ (s.settleAs o).setup = s.setup ∧ (s.settleAs o).align = s.align ∧
    (s.settleAs o).raster = s.raster ∧ (s.settleAs o).title = s.title ∧ (s.settleAs o).keyer = s.keyer ∧
    (s.settleAs o).cue = s.cue ∧ (s.settleAs o).bus = s.bus ∧ (s.settleAs o).att = s.att ∧
    (s.settleAs o).pins = s.pins ∧ (s.settleAs o).choices = s.choices ∧ (s.settleAs o).pending = s.pending := by
  unfold State.settleAs; dsimp only; split <;> simp

@[simp] theorem State.settleIfDue_frame :
    s.settleIfDue.timebase = s.timebase ∧ s.settleIfDue.rawCsync = s.rawCsync ∧ s.settleIfDue.rawCue = s.rawCue ∧
    s.settleIfDue.resetHeld = s.resetHeld ∧ s.settleIfDue.bresetHeld = s.bresetHeld ∧
    s.settleIfDue.setup = s.setup ∧ s.settleIfDue.align = s.align ∧ s.settleIfDue.raster = s.raster ∧
    s.settleIfDue.title = s.title ∧ s.settleIfDue.keyer = s.keyer ∧ s.settleIfDue.cue = s.cue ∧
    s.settleIfDue.bus = s.bus ∧ s.settleIfDue.att = s.att ∧ s.settleIfDue.pins = s.pins ∧
    s.settleIfDue.choices = s.choices ∧ s.settleIfDue.pending = s.pending := by
  unfold State.settleIfDue; split <;> simp

@[simp] theorem State.closePassed_frame (n : Nat) :
    (s.closePassed n).timebase = s.timebase ∧ (s.closePassed n).rawCsync = s.rawCsync ∧
    (s.closePassed n).rawCue = s.rawCue ∧ (s.closePassed n).resetHeld = s.resetHeld ∧
    (s.closePassed n).bresetHeld = s.bresetHeld ∧ (s.closePassed n).setup = s.setup ∧
    (s.closePassed n).align = s.align ∧ (s.closePassed n).synth = s.synth ∧ (s.closePassed n).raster = s.raster ∧
    (s.closePassed n).bus = s.bus ∧ (s.closePassed n).pins = s.pins ∧ (s.closePassed n).choices = s.choices ∧
    (s.closePassed n).pending = s.pending := by
  induction n generalizing s with
  | zero => simp [State.closePassed]
  | succ n ih =>
    unfold State.closePassed; split
    · simpa using ih (s.closeLine _)
    · simp

@[simp] theorem State.acceptSeek_frame :
    s.acceptSeek.timebase = s.timebase ∧ s.acceptSeek.rawCsync = s.rawCsync ∧ s.acceptSeek.rawCue = s.rawCue ∧
    s.acceptSeek.resetHeld = s.resetHeld ∧ s.acceptSeek.bresetHeld = s.bresetHeld ∧ s.acceptSeek.setup = s.setup ∧
    s.acceptSeek.align = s.align ∧ s.acceptSeek.raster = s.raster ∧ s.acceptSeek.bus = s.bus ∧
    s.acceptSeek.pins = s.pins ∧ s.acceptSeek.choices = s.choices ∧ s.acceptSeek.pending = s.pending := by
  simp [State.acceptSeek, State.enter]

@[simp] theorem State.discardSeek_frame :
    s.discardSeek.timebase = s.timebase ∧ s.discardSeek.rawCsync = s.rawCsync ∧ s.discardSeek.rawCue = s.rawCue ∧
    s.discardSeek.resetHeld = s.resetHeld ∧ s.discardSeek.bresetHeld = s.bresetHeld ∧
    s.discardSeek.setup = s.setup ∧ s.discardSeek.front = s.front ∧ s.discardSeek.align = s.align ∧
    s.discardSeek.synth = s.synth ∧ s.discardSeek.raster = s.raster ∧ s.discardSeek.title = s.title ∧
    s.discardSeek.keyer = s.keyer ∧ s.discardSeek.cue = s.cue ∧ s.discardSeek.bus = s.bus ∧
    s.discardSeek.pins = s.pins ∧ s.discardSeek.choices = s.choices ∧ s.discardSeek.pending = s.pending := by
  simp [State.discardSeek]

@[simp] theorem State.completeSeek_frame :
    s.completeSeek.timebase = s.timebase ∧ s.completeSeek.rawCsync = s.rawCsync ∧
    s.completeSeek.rawCue = s.rawCue ∧ s.completeSeek.resetHeld = s.resetHeld ∧
    s.completeSeek.bresetHeld = s.bresetHeld ∧ s.completeSeek.setup = s.setup ∧ s.completeSeek.align = s.align ∧
    s.completeSeek.raster = s.raster ∧ s.completeSeek.bus = s.bus ∧ s.completeSeek.pins = s.pins ∧
    s.completeSeek.choices = s.choices ∧ s.completeSeek.pending = s.pending := by
  unfold State.completeSeek; dsimp only; repeat' split
  all_goals simp

@[simp] theorem State.countSeekLine_frame :
    s.countSeekLine.timebase = s.timebase ∧ s.countSeekLine.rawCsync = s.rawCsync ∧
    s.countSeekLine.rawCue = s.rawCue ∧ s.countSeekLine.resetHeld = s.resetHeld ∧
    s.countSeekLine.bresetHeld = s.bresetHeld ∧ s.countSeekLine.setup = s.setup ∧
    s.countSeekLine.front = s.front ∧ s.countSeekLine.align = s.align ∧ s.countSeekLine.synth = s.synth ∧
    s.countSeekLine.raster = s.raster ∧ s.countSeekLine.title = s.title ∧ s.countSeekLine.keyer = s.keyer ∧
    s.countSeekLine.cue = s.cue ∧ s.countSeekLine.bus = s.bus ∧ s.countSeekLine.att = s.att ∧
    s.countSeekLine.pins = s.pins ∧ s.countSeekLine.choices = s.choices ∧ s.countSeekLine.pending = s.pending := by
  unfold State.countSeekLine; split <;> simp

/-! ### Keyer -/

@[simp] theorem State.judgeFetch_frame (w : Word) :
    (s.judgeFetch w).timebase = s.timebase ∧ (s.judgeFetch w).rawCsync = s.rawCsync ∧
    (s.judgeFetch w).rawCue = s.rawCue ∧ (s.judgeFetch w).resetHeld = s.resetHeld ∧
    (s.judgeFetch w).bresetHeld = s.bresetHeld ∧ (s.judgeFetch w).setup = s.setup ∧
    (s.judgeFetch w).front = s.front ∧ (s.judgeFetch w).loop = s.loop ∧ (s.judgeFetch w).align = s.align ∧
    (s.judgeFetch w).synth = s.synth ∧ (s.judgeFetch w).raster = s.raster ∧ (s.judgeFetch w).title = s.title ∧
    (s.judgeFetch w).cue = s.cue ∧ (s.judgeFetch w).bus = s.bus ∧ (s.judgeFetch w).att = s.att ∧
    (s.judgeFetch w).pins = s.pins ∧ (s.judgeFetch w).choices = s.choices ∧ (s.judgeFetch w).pending = s.pending := by
  unfold State.judgeFetch; split <;> simp

@[simp] theorem State.beginKeying_frame (n : Nat) (b : Bool) :
    (s.beginKeying n b).timebase = s.timebase ∧ (s.beginKeying n b).rawCsync = s.rawCsync ∧
    (s.beginKeying n b).rawCue = s.rawCue ∧ (s.beginKeying n b).resetHeld = s.resetHeld ∧
    (s.beginKeying n b).bresetHeld = s.bresetHeld ∧ (s.beginKeying n b).setup = s.setup ∧
    (s.beginKeying n b).front = s.front ∧ (s.beginKeying n b).loop = s.loop ∧
    (s.beginKeying n b).align = s.align ∧ (s.beginKeying n b).synth = s.synth ∧
    (s.beginKeying n b).raster = s.raster ∧ (s.beginKeying n b).title = s.title ∧
    (s.beginKeying n b).cue = s.cue ∧ (s.beginKeying n b).bus = s.bus ∧ (s.beginKeying n b).att = s.att ∧
    (s.beginKeying n b).pins = s.pins ∧ (s.beginKeying n b).choices = s.choices ∧
    (s.beginKeying n b).pending = s.pending := by
  simp [State.beginKeying]

/-! ### Raster counter -/

@[simp] theorem State.rasterFault_frame :
    s.rasterFault.timebase = s.timebase ∧ s.rasterFault.rawCsync = s.rawCsync ∧ s.rasterFault.rawCue = s.rawCue ∧
    s.rasterFault.resetHeld = s.resetHeld ∧ s.rasterFault.bresetHeld = s.bresetHeld ∧
    s.rasterFault.setup = s.setup ∧ s.rasterFault.front = s.front ∧ s.rasterFault.loop = s.loop ∧
    s.rasterFault.align = s.align ∧ s.rasterFault.synth = s.synth ∧ s.rasterFault.title = s.title ∧
    s.rasterFault.cue = s.cue ∧ s.rasterFault.bus = s.bus ∧ s.rasterFault.pins = s.pins ∧
    s.rasterFault.choices = s.choices ∧ s.rasterFault.pending = s.pending := by
  simp [State.rasterFault]

@[simp] theorem State.localLook_frame :
    s.localLook.timebase = s.timebase ∧ s.localLook.rawCsync = s.rawCsync ∧ s.localLook.rawCue = s.rawCue ∧
    s.localLook.resetHeld = s.resetHeld ∧ s.localLook.bresetHeld = s.bresetHeld ∧ s.localLook.setup = s.setup ∧
    s.localLook.front = s.front ∧ s.localLook.loop = s.loop ∧ s.localLook.align = s.align ∧
    s.localLook.synth = s.synth ∧ s.localLook.raster = s.raster ∧ s.localLook.bus = s.bus ∧
    s.localLook.pins = s.pins ∧ s.localLook.choices = s.choices ∧ s.localLook.pending = s.pending := by
  simp [State.localLook]

@[simp] theorem State.handLineStart_frame :
    s.handLineStart.timebase = s.timebase ∧ s.handLineStart.rawCsync = s.rawCsync ∧
    s.handLineStart.rawCue = s.rawCue ∧ s.handLineStart.resetHeld = s.resetHeld ∧
    s.handLineStart.bresetHeld = s.bresetHeld ∧ s.handLineStart.setup = s.setup ∧
    s.handLineStart.raster = s.raster ∧ s.handLineStart.bus = s.bus ∧ s.handLineStart.pins = s.pins ∧
    s.handLineStart.pending = s.pending := by
  unfold State.handLineStart; dsimp only; repeat' split
  all_goals simp

@[simp] theorem State.lineStart_frame :
    s.lineStart.timebase = s.timebase ∧ s.lineStart.rawCsync = s.rawCsync ∧ s.lineStart.rawCue = s.rawCue ∧
    s.lineStart.resetHeld = s.resetHeld ∧ s.lineStart.bresetHeld = s.bresetHeld ∧ s.lineStart.setup = s.setup ∧
    s.lineStart.bus = s.bus ∧ s.lineStart.pins = s.pins ∧ s.lineStart.pending = s.pending := by
  unfold State.lineStart; dsimp only; split <;> simp

@[simp] theorem State.carry_frame :
    s.carry.timebase = s.timebase ∧ s.carry.rawCsync = s.rawCsync ∧ s.carry.rawCue = s.rawCue ∧
    s.carry.resetHeld = s.resetHeld ∧ s.carry.bresetHeld = s.bresetHeld ∧ s.carry.setup = s.setup ∧
    s.carry.bus = s.bus ∧ s.carry.pins = s.pins ∧ s.carry.pending = s.pending := by
  unfold State.carry; split <;> simp

@[simp] theorem State.placeLhs_frame :
    s.placeLhs.timebase = s.timebase ∧ s.placeLhs.rawCsync = s.rawCsync ∧ s.placeLhs.rawCue = s.rawCue ∧
    s.placeLhs.resetHeld = s.resetHeld ∧ s.placeLhs.bresetHeld = s.bresetHeld ∧ s.placeLhs.setup = s.setup ∧
    s.placeLhs.front = s.front ∧ s.placeLhs.loop = s.loop ∧ s.placeLhs.align = s.align ∧
    s.placeLhs.synth = s.synth ∧ s.placeLhs.title = s.title ∧ s.placeLhs.keyer = s.keyer ∧
    s.placeLhs.cue = s.cue ∧ s.placeLhs.bus = s.bus ∧ s.placeLhs.att = s.att ∧ s.placeLhs.pins = s.pins ∧
    s.placeLhs.choices = s.choices ∧ s.placeLhs.pending = s.pending := by
  simp [State.placeLhs]

@[simp] theorem State.keyLhs_frame :
    s.keyLhs.timebase = s.timebase ∧ s.keyLhs.rawCsync = s.rawCsync ∧ s.keyLhs.rawCue = s.rawCue ∧
    s.keyLhs.resetHeld = s.resetHeld ∧ s.keyLhs.bresetHeld = s.bresetHeld ∧ s.keyLhs.setup = s.setup ∧
    s.keyLhs.front = s.front ∧ s.keyLhs.loop = s.loop ∧ s.keyLhs.align = s.align ∧ s.keyLhs.synth = s.synth ∧
    s.keyLhs.raster = s.raster ∧ s.keyLhs.title = s.title ∧ s.keyLhs.cue = s.cue ∧ s.keyLhs.bus = s.bus ∧
    s.keyLhs.att = s.att ∧ s.keyLhs.pins = s.pins ∧ s.keyLhs.choices = s.choices ∧ s.keyLhs.pending = s.pending := by
  unfold State.keyLhs; split <;> simp

@[simp] theorem State.failLhs_frame :
    s.failLhs.timebase = s.timebase ∧ s.failLhs.rawCsync = s.rawCsync ∧ s.failLhs.rawCue = s.rawCue ∧
    s.failLhs.resetHeld = s.resetHeld ∧ s.failLhs.bresetHeld = s.bresetHeld ∧ s.failLhs.setup = s.setup ∧
    s.failLhs.front = s.front ∧ s.failLhs.loop = s.loop ∧ s.failLhs.align = s.align ∧ s.failLhs.synth = s.synth ∧
    s.failLhs.title = s.title ∧ s.failLhs.cue = s.cue ∧ s.failLhs.bus = s.bus ∧ s.failLhs.pins = s.pins ∧
    s.failLhs.choices = s.choices ∧ s.failLhs.pending = s.pending := by
  simp [State.failLhs]

@[simp] theorem State.seeLhs_frame :
    s.seeLhs.timebase = s.timebase ∧ s.seeLhs.rawCsync = s.rawCsync ∧ s.seeLhs.rawCue = s.rawCue ∧
    s.seeLhs.resetHeld = s.resetHeld ∧ s.seeLhs.bresetHeld = s.bresetHeld ∧ s.seeLhs.setup = s.setup ∧
    s.seeLhs.front = s.front ∧ s.seeLhs.loop = s.loop ∧ s.seeLhs.align = s.align ∧ s.seeLhs.synth = s.synth ∧
    s.seeLhs.title = s.title ∧ s.seeLhs.cue = s.cue ∧ s.seeLhs.bus = s.bus ∧ s.seeLhs.pins = s.pins ∧
    s.seeLhs.choices = s.choices ∧ s.seeLhs.pending = s.pending := by
  unfold State.seeLhs; split <;> simp

@[simp] theorem State.sampleLhs_frame :
    s.sampleLhs.timebase = s.timebase ∧ s.sampleLhs.rawCsync = s.rawCsync ∧ s.sampleLhs.rawCue = s.rawCue ∧
    s.sampleLhs.resetHeld = s.resetHeld ∧ s.sampleLhs.bresetHeld = s.bresetHeld ∧ s.sampleLhs.setup = s.setup ∧
    s.sampleLhs.front = s.front ∧ s.sampleLhs.loop = s.loop ∧ s.sampleLhs.align = s.align ∧
    s.sampleLhs.synth = s.synth ∧ s.sampleLhs.title = s.title ∧ s.sampleLhs.cue = s.cue ∧
    s.sampleLhs.bus = s.bus ∧ s.sampleLhs.pins = s.pins ∧ s.sampleLhs.choices = s.choices ∧
    s.sampleLhs.pending = s.pending := by
  unfold State.sampleLhs; dsimp only; repeat' split
  all_goals simp

@[simp] theorem State.closeWindow_frame :
    s.closeWindow.timebase = s.timebase ∧ s.closeWindow.rawCsync = s.rawCsync ∧ s.closeWindow.rawCue = s.rawCue ∧
    s.closeWindow.resetHeld = s.resetHeld ∧ s.closeWindow.bresetHeld = s.bresetHeld ∧
    s.closeWindow.setup = s.setup ∧ s.closeWindow.front = s.front ∧ s.closeWindow.loop = s.loop ∧
    s.closeWindow.align = s.align ∧ s.closeWindow.synth = s.synth ∧ s.closeWindow.title = s.title ∧
    s.closeWindow.cue = s.cue ∧ s.closeWindow.bus = s.bus ∧ s.closeWindow.pins = s.pins ∧
    s.closeWindow.choices = s.choices ∧ s.closeWindow.pending = s.pending := by
  unfold State.closeWindow; split <;> simp

@[simp] theorem State.renumberLine_frame :
    s.renumberLine.timebase = s.timebase ∧ s.renumberLine.rawCsync = s.rawCsync ∧
    s.renumberLine.rawCue = s.rawCue ∧ s.renumberLine.resetHeld = s.resetHeld ∧
    s.renumberLine.bresetHeld = s.bresetHeld ∧ s.renumberLine.setup = s.setup ∧ s.renumberLine.front = s.front ∧
    s.renumberLine.loop = s.loop ∧ s.renumberLine.align = s.align ∧ s.renumberLine.synth = s.synth ∧
    s.renumberLine.title = s.title ∧ s.renumberLine.keyer = s.keyer ∧ s.renumberLine.cue = s.cue ∧
    s.renumberLine.bus = s.bus ∧ s.renumberLine.att = s.att ∧ s.renumberLine.pins = s.pins ∧
    s.renumberLine.choices = s.choices ∧ s.renumberLine.pending = s.pending := by
  simp [State.renumberLine]

@[simp] theorem State.capture_frame :
    s.capture.timebase = s.timebase ∧ s.capture.rawCsync = s.rawCsync ∧ s.capture.rawCue = s.rawCue ∧
    s.capture.resetHeld = s.resetHeld ∧ s.capture.bresetHeld = s.bresetHeld ∧ s.capture.setup = s.setup ∧
    s.capture.front = s.front ∧ s.capture.loop = s.loop ∧ s.capture.align = s.align ∧ s.capture.synth = s.synth ∧
    s.capture.title = s.title ∧ s.capture.keyer = s.keyer ∧ s.capture.cue = s.cue ∧ s.capture.bus = s.bus ∧
    s.capture.pins = s.pins ∧ s.capture.choices = s.choices ∧ s.capture.pending = s.pending := by
  simp [State.capture]

@[simp] theorem State.checkLvs_frame :
    s.checkLvs.timebase = s.timebase ∧ s.checkLvs.rawCsync = s.rawCsync ∧ s.checkLvs.rawCue = s.rawCue ∧
    s.checkLvs.resetHeld = s.resetHeld ∧ s.checkLvs.bresetHeld = s.bresetHeld ∧ s.checkLvs.setup = s.setup ∧
    s.checkLvs.front = s.front ∧ s.checkLvs.loop = s.loop ∧ s.checkLvs.align = s.align ∧
    s.checkLvs.synth = s.synth ∧ s.checkLvs.title = s.title ∧ s.checkLvs.cue = s.cue ∧ s.checkLvs.bus = s.bus ∧
    s.checkLvs.pins = s.pins ∧ s.checkLvs.choices = s.choices ∧ s.checkLvs.pending = s.pending := by
  unfold State.checkLvs; repeat' split
  all_goals simp

@[simp] theorem State.takeLvs_frame :
    s.takeLvs.timebase = s.timebase ∧ s.takeLvs.rawCsync = s.rawCsync ∧ s.takeLvs.rawCue = s.rawCue ∧
    s.takeLvs.resetHeld = s.resetHeld ∧ s.takeLvs.bresetHeld = s.bresetHeld ∧ s.takeLvs.setup = s.setup ∧
    s.takeLvs.front = s.front ∧ s.takeLvs.loop = s.loop ∧ s.takeLvs.align = s.align ∧ s.takeLvs.synth = s.synth ∧
    s.takeLvs.title = s.title ∧ s.takeLvs.cue = s.cue ∧ s.takeLvs.bus = s.bus ∧ s.takeLvs.pins = s.pins ∧
    s.takeLvs.choices = s.choices ∧ s.takeLvs.pending = s.pending := by
  unfold State.takeLvs; dsimp only; repeat' split
  all_goals simp

@[simp] theorem State.adoptIfAsked_frame :
    s.adoptIfAsked.timebase = s.timebase ∧ s.adoptIfAsked.rawCsync = s.rawCsync ∧
    s.adoptIfAsked.rawCue = s.rawCue ∧ s.adoptIfAsked.resetHeld = s.resetHeld ∧
    s.adoptIfAsked.bresetHeld = s.bresetHeld ∧ s.adoptIfAsked.setup = s.setup ∧ s.adoptIfAsked.front = s.front ∧
    s.adoptIfAsked.loop = s.loop ∧ s.adoptIfAsked.align = s.align ∧ s.adoptIfAsked.synth = s.synth ∧
    s.adoptIfAsked.raster = s.raster ∧ s.adoptIfAsked.bus = s.bus ∧ s.adoptIfAsked.att = s.att ∧
    s.adoptIfAsked.pins = s.pins ∧ s.adoptIfAsked.choices = s.choices ∧ s.adoptIfAsked.pending = s.pending := by
  unfold State.adoptIfAsked; split <;> simp

@[simp] theorem State.fieldTick_frame :
    s.fieldTick.timebase = s.timebase ∧ s.fieldTick.rawCsync = s.rawCsync ∧ s.fieldTick.rawCue = s.rawCue ∧
    s.fieldTick.resetHeld = s.resetHeld ∧ s.fieldTick.bresetHeld = s.bresetHeld ∧ s.fieldTick.setup = s.setup ∧
    s.fieldTick.front = s.front ∧ s.fieldTick.loop = s.loop ∧ s.fieldTick.align = s.align ∧
    s.fieldTick.synth = s.synth ∧ s.fieldTick.raster = s.raster ∧ s.fieldTick.bus = s.bus ∧
    s.fieldTick.pins = s.pins ∧ s.fieldTick.choices = s.choices ∧ s.fieldTick.pending = s.pending := by
  simp [State.fieldTick]

@[simp] theorem State.sampleLvs_frame :
    s.sampleLvs.timebase = s.timebase ∧ s.sampleLvs.rawCsync = s.rawCsync ∧ s.sampleLvs.rawCue = s.rawCue ∧
    s.sampleLvs.resetHeld = s.resetHeld ∧ s.sampleLvs.bresetHeld = s.bresetHeld ∧ s.sampleLvs.setup = s.setup ∧
    s.sampleLvs.front = s.front ∧ s.sampleLvs.loop = s.loop ∧ s.sampleLvs.align = s.align ∧
    s.sampleLvs.synth = s.synth ∧ s.sampleLvs.bus = s.bus ∧ s.sampleLvs.pins = s.pins ∧
    s.sampleLvs.choices = s.choices ∧ s.sampleLvs.pending = s.pending := by
  unfold State.sampleLvs; dsimp only; repeat' split
  all_goals simp

@[simp] theorem State.timeoutLvs_frame :
    s.timeoutLvs.timebase = s.timebase ∧ s.timeoutLvs.rawCsync = s.rawCsync ∧ s.timeoutLvs.rawCue = s.rawCue ∧
    s.timeoutLvs.resetHeld = s.resetHeld ∧ s.timeoutLvs.bresetHeld = s.bresetHeld ∧ s.timeoutLvs.setup = s.setup ∧
    s.timeoutLvs.front = s.front ∧ s.timeoutLvs.loop = s.loop ∧ s.timeoutLvs.align = s.align ∧
    s.timeoutLvs.synth = s.synth ∧ s.timeoutLvs.title = s.title ∧ s.timeoutLvs.cue = s.cue ∧
    s.timeoutLvs.bus = s.bus ∧ s.timeoutLvs.pins = s.pins ∧ s.timeoutLvs.choices = s.choices ∧
    s.timeoutLvs.pending = s.pending := by
  unfold State.timeoutLvs; split <;> simp

/-! ### The command table -/

/-- Everything the judging of a command can be: one of the twelve of the table, or UNKNOWN (section 9.5). -/
theorem Command.judge_induction {P : (State → Verdict × State) → Prop} (c : Command) (h1 : P judgeEngage)
    (h2 : P judgeRelease) (h3 : P judgeFreeze) (h4 : P judgeResume) (h5 : P judgeAdopt) (h6 : ∀ b, P (judgeShow b))
    (h7 : P judgeStop) (h8 : P judgeAdvance) (h9 : ∀ b w, P (judgeFade b w)) (h10 : ∀ b w, P (judgeCut b w))
    (h11 : ∀ w, P (judgeCountSet w)) (h12 : ∀ w, P (judgeAck w)) (h13 : P judgeUnknown) : P c.judge := by
  unfold Command.judge
  split <;> first | assumption | exact h6 _ | exact h9 _ _ | exact h10 _ _ | exact h11 _ | exact h12 _

@[simp] theorem Command.judge_frame (c : Command) :
    (c.judge s).2.timebase = s.timebase ∧ (c.judge s).2.rawCsync = s.rawCsync ∧ (c.judge s).2.rawCue = s.rawCue ∧
    (c.judge s).2.resetHeld = s.resetHeld ∧ (c.judge s).2.bresetHeld = s.bresetHeld ∧
    (c.judge s).2.setup = s.setup ∧ (c.judge s).2.raster = s.raster ∧ (c.judge s).2.bus = s.bus ∧
    (c.judge s).2.pins = s.pins ∧ (c.judge s).2.choices = s.choices ∧ (c.judge s).2.pending = s.pending := by
  refine Command.judge_induction (P := fun j => (j s).2.timebase = s.timebase ∧
      (j s).2.rawCsync = s.rawCsync ∧ (j s).2.rawCue = s.rawCue ∧ (j s).2.resetHeld = s.resetHeld ∧
      (j s).2.bresetHeld = s.bresetHeld ∧
      (j s).2.setup = s.setup ∧ (j s).2.raster = s.raster ∧ (j s).2.bus = s.bus ∧ (j s).2.pins = s.pins ∧
      (j s).2.choices = s.choices ∧ (j s).2.pending = s.pending) c
    ?_ ?_ ?_ ?_ ?_ ?_ ?_ ?_ ?_ ?_ ?_ ?_ ?_ <;>
  · intros
    simp only [judgeEngage, judgeRelease, judgeFreeze, judgeResume, judgeAdopt, judgeShow, judgeStop, judgeAdvance,
      judgeFade, judgeCut, judgeCountSet, judgeAck, judgeUnknown]
    repeat' split
    all_goals simp

@[simp] theorem State.serveUntil_frame (stop : Command → Bool) (q : List Command) :
    (s.serveUntil stop q).timebase = s.timebase ∧ (s.serveUntil stop q).rawCsync = s.rawCsync ∧
    (s.serveUntil stop q).rawCue = s.rawCue ∧ (s.serveUntil stop q).resetHeld = s.resetHeld ∧
    (s.serveUntil stop q).bresetHeld = s.bresetHeld ∧ (s.serveUntil stop q).setup = s.setup ∧
    (s.serveUntil stop q).raster = s.raster ∧ (s.serveUntil stop q).pins = s.pins ∧
    (s.serveUntil stop q).choices = s.choices ∧ (s.serveUntil stop q).pending = s.pending := by
  induction q generalizing s with
  | nil => simp [State.serveUntil]
  | cons c q ih =>
    unfold State.serveUntil; split
    · simp
    · simpa [State.takeCommand, State.judged] using ih (s.takeCommand c.judge c q)

@[simp] theorem State.serve_frame :
    s.serve.timebase = s.timebase ∧ s.serve.rawCsync = s.rawCsync ∧ s.serve.rawCue = s.rawCue ∧
    s.serve.resetHeld = s.resetHeld ∧ s.serve.bresetHeld = s.bresetHeld ∧ s.serve.setup = s.setup ∧
    s.serve.raster = s.raster ∧ s.serve.pins = s.pins ∧ s.serve.choices = s.choices ∧
    s.serve.pending = s.pending := by
  unfold State.serve; split <;> simp

@[simp] theorem State.moveOn_frame (now : Time) :
    (s.moveOn now).rawCsync = s.rawCsync ∧ (s.moveOn now).rawCue = s.rawCue ∧
    (s.moveOn now).resetHeld = s.resetHeld ∧ (s.moveOn now).bresetHeld = s.bresetHeld ∧
    (s.moveOn now).setup = s.setup ∧ (s.moveOn now).raster = s.raster ∧ (s.moveOn now).pins = s.pins ∧
    (s.moveOn now).choices = s.choices ∧ (s.moveOn now).pending = s.pending := by
  unfold State.moveOn; split <;> simp

/-! ### Bus watcher and resets -/

@[simp] theorem State.fetchCycle_frame (a : Addr) (w : FetchWord) :
    (s.fetchCycle a w).timebase = s.timebase ∧ (s.fetchCycle a w).rawCsync = s.rawCsync ∧
    (s.fetchCycle a w).rawCue = s.rawCue ∧ (s.fetchCycle a w).resetHeld = s.resetHeld ∧
    (s.fetchCycle a w).bresetHeld = s.bresetHeld ∧ (s.fetchCycle a w).setup = s.setup ∧
    (s.fetchCycle a w).front = s.front ∧ (s.fetchCycle a w).loop = s.loop ∧ (s.fetchCycle a w).align = s.align ∧
    (s.fetchCycle a w).synth = s.synth ∧ (s.fetchCycle a w).raster = s.raster ∧
    (s.fetchCycle a w).title = s.title ∧ (s.fetchCycle a w).keyer = s.keyer ∧ (s.fetchCycle a w).cue = s.cue ∧
    (s.fetchCycle a w).att = s.att ∧ (s.fetchCycle a w).pins = s.pins ∧ (s.fetchCycle a w).choices = s.choices ∧
    (s.fetchCycle a w).pending = s.pending := by
  unfold State.fetchCycle; split <;> simp

@[simp] theorem State.refitFreq_frame :
    s.refitFreq.timebase = s.timebase ∧ s.refitFreq.rawCsync = s.rawCsync ∧ s.refitFreq.rawCue = s.rawCue ∧
    s.refitFreq.resetHeld = s.resetHeld ∧ s.refitFreq.bresetHeld = s.bresetHeld ∧ s.refitFreq.setup = s.setup ∧
    s.refitFreq.front = s.front ∧ s.refitFreq.align = s.align ∧ s.refitFreq.raster = s.raster ∧
    s.refitFreq.title = s.title ∧ s.refitFreq.keyer = s.keyer ∧ s.refitFreq.cue = s.cue ∧
    s.refitFreq.bus = s.bus ∧ s.refitFreq.att = s.att ∧ s.refitFreq.pins = s.pins ∧
    s.refitFreq.choices = s.choices ∧ s.refitFreq.pending = s.pending := by
  simp [State.refitFreq]

@[simp] theorem State.afterStructural_frame (i : Nat) :
    (s.afterStructural i).timebase = s.timebase ∧ (s.afterStructural i).rawCsync = s.rawCsync ∧
    (s.afterStructural i).rawCue = s.rawCue ∧ (s.afterStructural i).resetHeld = s.resetHeld ∧
    (s.afterStructural i).bresetHeld = s.bresetHeld ∧ (s.afterStructural i).setup = s.setup ∧
    (s.afterStructural i).front = s.front ∧ (s.afterStructural i).align = s.align ∧
    (s.afterStructural i).raster = s.raster ∧ (s.afterStructural i).title = s.title ∧
    (s.afterStructural i).keyer = s.keyer ∧ (s.afterStructural i).cue = s.cue ∧
    (s.afterStructural i).bus = s.bus ∧ (s.afterStructural i).pins = s.pins ∧
    (s.afterStructural i).choices = s.choices ∧ (s.afterStructural i).pending = s.pending := by
  unfold State.afterStructural; repeat' split
  all_goals simp

@[simp] theorem State.holdCsync_frame :
    s.holdCsync.timebase = s.timebase ∧ s.holdCsync.rawCsync = s.rawCsync ∧ s.holdCsync.rawCue = s.rawCue ∧
    s.holdCsync.resetHeld = s.resetHeld ∧ s.holdCsync.bresetHeld = s.bresetHeld ∧ s.holdCsync.setup = s.setup ∧
    s.holdCsync.loop = s.loop ∧ s.holdCsync.align = s.align ∧ s.holdCsync.synth = s.synth ∧
    s.holdCsync.raster = s.raster ∧ s.holdCsync.title = s.title ∧ s.holdCsync.keyer = s.keyer ∧
    s.holdCsync.cue = s.cue ∧ s.holdCsync.bus = s.bus ∧ s.holdCsync.att = s.att ∧ s.holdCsync.pins = s.pins ∧
    s.holdCsync.choices = s.choices ∧ s.holdCsync.pending = s.pending := by
  simp [State.holdCsync]

@[simp] theorem State.holdCue_frame :
    s.holdCue.timebase = s.timebase ∧ s.holdCue.rawCsync = s.rawCsync ∧ s.holdCue.rawCue = s.rawCue ∧
    s.holdCue.resetHeld = s.resetHeld ∧ s.holdCue.bresetHeld = s.bresetHeld ∧ s.holdCue.setup = s.setup ∧
    s.holdCue.front = s.front ∧ s.holdCue.loop = s.loop ∧ s.holdCue.align = s.align ∧ s.holdCue.synth = s.synth ∧
    s.holdCue.raster = s.raster ∧ s.holdCue.title = s.title ∧ s.holdCue.keyer = s.keyer ∧ s.holdCue.bus = s.bus ∧
    s.holdCue.att = s.att ∧ s.holdCue.pins = s.pins ∧ s.holdCue.choices = s.choices ∧
    s.holdCue.pending = s.pending := by
  simp [State.holdCue]

@[simp] theorem State.writeStructural_frame (i : Nat) (w : Word) (l : Lanes) :
    (s.writeStructural i w l).timebase = s.timebase ∧ (s.writeStructural i w l).rawCsync = s.rawCsync ∧
    (s.writeStructural i w l).rawCue = s.rawCue ∧ (s.writeStructural i w l).resetHeld = s.resetHeld ∧
    (s.writeStructural i w l).bresetHeld = s.bresetHeld ∧ (s.writeStructural i w l).align = s.align ∧
    (s.writeStructural i w l).raster = s.raster ∧ (s.writeStructural i w l).title = s.title ∧
    (s.writeStructural i w l).keyer = s.keyer ∧ (s.writeStructural i w l).cue = s.cue ∧
    (s.writeStructural i w l).bus = s.bus ∧ (s.writeStructural i w l).pins = s.pins ∧
    (s.writeStructural i w l).choices = s.choices ∧ (s.writeStructural i w l).pending = s.pending := by
  unfold State.writeStructural; dsimp only; repeat' split
  all_goals simp

@[simp] theorem State.writeAux_frame (i : Nat) (w : Word) (l : Lanes) :
    (s.writeAux i w l).timebase = s.timebase ∧ (s.writeAux i w l).rawCsync = s.rawCsync ∧
    (s.writeAux i w l).rawCue = s.rawCue ∧ (s.writeAux i w l).resetHeld = s.resetHeld ∧
    (s.writeAux i w l).bresetHeld = s.bresetHeld ∧ (s.writeAux i w l).front = s.front ∧
    (s.writeAux i w l).loop = s.loop ∧ (s.writeAux i w l).align = s.align ∧ (s.writeAux i w l).synth = s.synth ∧
    (s.writeAux i w l).raster = s.raster ∧ (s.writeAux i w l).title = s.title ∧
    (s.writeAux i w l).keyer = s.keyer ∧ (s.writeAux i w l).bus = s.bus ∧ (s.writeAux i w l).att = s.att ∧
    (s.writeAux i w l).pins = s.pins ∧ (s.writeAux i w l).choices = s.choices ∧
    (s.writeAux i w l).pending = s.pending := by
  unfold State.writeAux; split <;> simp

@[simp] theorem State.writeCmd_frame (w : Word) (l : Lanes) :
    (s.writeCmd w l).timebase = s.timebase ∧ (s.writeCmd w l).rawCsync = s.rawCsync ∧
    (s.writeCmd w l).rawCue = s.rawCue ∧ (s.writeCmd w l).resetHeld = s.resetHeld ∧
    (s.writeCmd w l).bresetHeld = s.bresetHeld ∧ (s.writeCmd w l).setup = s.setup ∧
    (s.writeCmd w l).front = s.front ∧ (s.writeCmd w l).loop = s.loop ∧ (s.writeCmd w l).align = s.align ∧
    (s.writeCmd w l).synth = s.synth ∧ (s.writeCmd w l).raster = s.raster ∧ (s.writeCmd w l).title = s.title ∧
    (s.writeCmd w l).keyer = s.keyer ∧ (s.writeCmd w l).cue = s.cue ∧ (s.writeCmd w l).pins = s.pins ∧
    (s.writeCmd w l).choices = s.choices ∧ (s.writeCmd w l).pending = s.pending := by
  unfold State.writeCmd State.enqueueCommand; dsimp only; repeat' split
  all_goals simp

@[simp] theorem State.capturePlace_frame (p : Place) (w : Word) (l : Lanes) :
    (s.capturePlace p w l).timebase = s.timebase ∧ (s.capturePlace p w l).rawCsync = s.rawCsync ∧
    (s.capturePlace p w l).rawCue = s.rawCue ∧ (s.capturePlace p w l).resetHeld = s.resetHeld ∧
    (s.capturePlace p w l).bresetHeld = s.bresetHeld ∧ (s.capturePlace p w l).align = s.align ∧
    (s.capturePlace p w l).raster = s.raster ∧ (s.capturePlace p w l).keyer = s.keyer ∧
    (s.capturePlace p w l).pins = s.pins ∧ (s.capturePlace p w l).choices = s.choices ∧
    (s.capturePlace p w l).pending = s.pending := by
  cases p <;> simp [State.capturePlace, State.writeLoop, State.writeRampRecord,
    State.writeEnable, State.writeWindowSet, State.writeCueTable, State.writeArg]

@[simp] theorem State.cpuWrite_frame (a : Addr) (w : Word) (l : Lanes) :
    (s.cpuWrite a w l).timebase = s.timebase ∧ (s.cpuWrite a w l).rawCsync = s.rawCsync ∧
    (s.cpuWrite a w l).rawCue = s.rawCue ∧ (s.cpuWrite a w l).resetHeld = s.resetHeld ∧
    (s.cpuWrite a w l).bresetHeld = s.bresetHeld ∧ (s.cpuWrite a w l).align = s.align ∧
    (s.cpuWrite a w l).raster = s.raster ∧ (s.cpuWrite a w l).keyer = s.keyer ∧ (s.cpuWrite a w l).pins = s.pins ∧
    (s.cpuWrite a w l).choices = s.choices ∧ (s.cpuWrite a w l).pending = s.pending := by
  unfold State.cpuWrite; dsimp only; repeat' split
  all_goals simp

@[simp] theorem State.cpuRead_frame (a : Addr) (w : ReadWord) :
    (s.cpuRead a w).timebase = s.timebase ∧ (s.cpuRead a w).rawCsync = s.rawCsync ∧
    (s.cpuRead a w).rawCue = s.rawCue ∧ (s.cpuRead a w).resetHeld = s.resetHeld ∧
    (s.cpuRead a w).bresetHeld = s.bresetHeld ∧ (s.cpuRead a w).setup = s.setup ∧
    (s.cpuRead a w).front = s.front ∧ (s.cpuRead a w).loop = s.loop ∧ (s.cpuRead a w).align = s.align ∧
    (s.cpuRead a w).synth = s.synth ∧ (s.cpuRead a w).raster = s.raster ∧ (s.cpuRead a w).title = s.title ∧
    (s.cpuRead a w).keyer = s.keyer ∧ (s.cpuRead a w).cue = s.cue ∧ (s.cpuRead a w).att = s.att ∧
    (s.cpuRead a w).pins = s.pins ∧ (s.cpuRead a w).choices = s.choices ∧ (s.cpuRead a w).pending = s.pending := by
  unfold State.cpuRead; dsimp only; repeat' split
  all_goals simp

@[simp] theorem State.busReset_frame :
    s.busReset.timebase = s.timebase ∧ s.busReset.rawCsync = s.rawCsync ∧ s.busReset.rawCue = s.rawCue ∧
    s.busReset.resetHeld = s.resetHeld ∧ s.busReset.bresetHeld = s.bresetHeld ∧ s.busReset.setup = s.setup ∧
    s.busReset.front = s.front ∧ s.busReset.loop = s.loop ∧ s.busReset.align = s.align ∧
    s.busReset.synth = s.synth ∧ s.busReset.raster = s.raster ∧ s.busReset.pins = s.pins ∧
    s.busReset.choices = s.choices ∧ s.busReset.pending = s.pending := by
  simp [State.busReset]

@[simp] theorem State.tick_frame :
    s.tick.rawCsync = s.rawCsync ∧ s.tick.rawCue = s.rawCue ∧ s.tick.resetHeld = s.resetHeld ∧
    s.tick.bresetHeld = s.bresetHeld ∧ s.tick.setup = s.setup ∧ s.tick.front = s.front ∧ s.tick.loop = s.loop ∧
    s.tick.align = s.align ∧ s.tick.raster = s.raster ∧ s.tick.title = s.title ∧ s.tick.keyer = s.keyer ∧
    s.tick.cue = s.cue ∧ s.tick.bus = s.bus ∧ s.tick.att = s.att ∧ s.tick.choices = s.choices ∧
    s.tick.pending = s.pending := by
  simp [State.tick]

end Sys2Proof.Machine
end

