-- ==== Sys2Proof/WellFormed.lean ====
section
/-! DEFINITION. Which commands are those of their row: the checks the rules make on the operands. -/

namespace Sys2Proof

/-- The offset of an address in its block of 16,384 words. The cue-area base is a multiple of 16,384, so within
the cue area this is the offset R158 gives. -/
def blockOffset (addr : Addr) : Nat := addr.toNat % 16384

/-- A CPU cycle uses one lane or both (R160, R163). -/
def Lanes.used (l : Lanes) : Bool := l.low || l.high

/-- A structural setup word (section 2.8, 11.2). -/
def isStructuralOffset (o : Nat) : Bool := o ≤ 0x00B

/-- The field counter mode and modulus (11.2). -/
def isCounterOffset (o : Nat) : Bool := o == 0x02A || o == 0x02B

/-- A captured word that has a row of its own or none (R161). -/
def isCapturedOffset (o : Nat) : Bool :=
  o ≤ 0x048 || (0x100 ≤ o && o ≤ 0x1FF) || (0x200 ≤ o && o ≤ 0x2A3) || o == 0x7C0 || o == 0x7C1

/-- A command is well formed when its operands are those its row speaks of. -/
def Instr.wf : Instr → Bool
  | .unknownCommand code _ _ => !Machine.knownCode code
  | .capturedWrite addr _ lanes =>
    lanes.used && isCapturedOffset (blockOffset addr) && !isStructuralOffset (blockOffset addr) &&
      !isCounterOffset (blockOffset addr) && blockOffset addr != 0x048
  | .structuralSetupWrite addr _ lanes => lanes.used && isStructuralOffset (blockOffset addr)
  | .fieldCounterModeWrite addr _ lanes => lanes.used && isCounterOffset (blockOffset addr)
  | .enableMaskWrite addr _ lanes => lanes.used && blockOffset addr == 0x048
  | .reportSummaryRead addr dram =>
    dram.lanes.used && decide (0x7E0 ≤ blockOffset addr) && decide (blockOffset addr ≤ 0x7FF)
  | .powerReset .. => true
  | .busReset => true
  | .acceptedFall .. => true
  | .acceptedRise .. => true
  | .pulseSaturation .. => true
  | .recordTaken => true
  | .seekComplete => true
  | .lineClose .. => true
  | .holdoverExpired => true
  | .lineSettle .. => true
  | .engage .. => true
  | .release .. => true
  | .freeze .. => true
  | .resume .. => true
  | .adopt .. => true
  | .showSet .. => true
  | .stop .. => true
  | .advance .. => true
  | .fade .. => true
  | .cut .. => true
  | .countSet .. => true
  | .ack .. => true
  | .displayFetch .. => true
  | .lhsSeen => true
  | .lhsWindowClose => true
  | .lineZeroLvsTimeout => true
  | .localFieldStart => true
  | .dwellExpired => true
  | .localLineStart .. => true
  | .cuePulse .. => true
  | .cueFallAccepted .. => true
  | .busResetRelease => true
  | .powerResetEnd => true
  | .synthesiserCarry .. => true
  | .csyncLevelChange .. => true
  | .cueLevelChange .. => true

end Sys2Proof
end

