-- ==== Sys2Proof/Laws/PerInstr.lean ====
section
/-! SUPPORT. The family WellFormedOperands: what the check of a command's operands means, constructor by
constructor. -/

namespace Sys2Proof.Laws.WellFormedOperands

open Sys2Proof

/-- A command passes `Instr.wf` exactly when its operands are those its row speaks of: a code outside the command table
(R166), a used lane and an offset of the row's own words (R48, R150, R160, R161, R175) or of the report block
(R162, R163); the other rows take every operand. -/
def Statement (i : Instr) : Prop :=
  i.wf = true ↔
    match i with
    | .unknownCommand code _ _ => code ∉ [0x01, 0x02, 0x03, 0x04, 0x08, 0x10, 0x11, 0x12, 0x20, 0x21, 0x30, 0x40]
    | .capturedWrite addr _ lanes =>
      (lanes.low = true ∨ lanes.high = true) ∧
        ((0x00C ≤ blockOffset addr ∧ blockOffset addr ≤ 0x047 ∧ blockOffset addr ≠ 0x02A ∧ blockOffset addr ≠ 0x02B) ∨
          (0x100 ≤ blockOffset addr ∧ blockOffset addr ≤ 0x1FF) ∨
          (0x200 ≤ blockOffset addr ∧ blockOffset addr ≤ 0x2A3) ∨ blockOffset addr = 0x7C0 ∨ blockOffset addr = 0x7C1)
    | .structuralSetupWrite addr _ lanes => (lanes.low = true ∨ lanes.high = true) ∧ blockOffset addr ≤ 0x00B
    | .fieldCounterModeWrite addr _ lanes =>
      (lanes.low = true ∨ lanes.high = true) ∧ (blockOffset addr = 0x02A ∨ blockOffset addr = 0x02B)
    | .enableMaskWrite addr _ lanes => (lanes.low = true ∨ lanes.high = true) ∧ blockOffset addr = 0x048
    | .reportSummaryRead addr dram =>
      (dram.lanes.low = true ∨ dram.lanes.high = true) ∧ 0x7E0 ≤ blockOffset addr ∧ blockOffset addr ≤ 0x7FF
    | _ => True

theorem powerReset (base : BitVec 4) (dclk : BitVec 2) (std : Standard) : Statement (.powerReset base dclk std) :=
  iff_of_true rfl trivial

theorem busReset : Statement .busReset := iff_of_true rfl trivial

theorem acceptedFall (now : Time) : Statement (.acceptedFall now) := iff_of_true rfl trivial

theorem acceptedRise (now : Time) : Statement (.acceptedRise now) := iff_of_true rfl trivial

theorem pulseSaturation (now : Time) : Statement (.pulseSaturation now) := iff_of_true rfl trivial

theorem recordTaken : Statement .recordTaken := iff_of_true rfl trivial

theorem seekComplete : Statement .seekComplete := iff_of_true rfl trivial

theorem lineClose (now : Time) : Statement (.lineClose now) := iff_of_true rfl trivial

theorem holdoverExpired : Statement .holdoverExpired := iff_of_true rfl trivial

theorem lineSettle (now : Time) : Statement (.lineSettle now) := iff_of_true rfl trivial

theorem engage (small : Byte) (arg : Word) : Statement (.engage small arg) := iff_of_true rfl trivial

theorem release (small : Byte) (arg : Word) : Statement (.release small arg) := iff_of_true rfl trivial

theorem freeze (small : Byte) (arg : Word) : Statement (.freeze small arg) := iff_of_true rfl trivial

theorem resume (small : Byte) (arg : Word) : Statement (.resume small arg) := iff_of_true rfl trivial

theorem adopt (small : Byte) (arg : Word) : Statement (.adopt small arg) := iff_of_true rfl trivial

theorem showSet (small : Byte) (arg : Word) : Statement (.showSet small arg) := iff_of_true rfl trivial

theorem stop (small : Byte) (arg : Word) : Statement (.stop small arg) := iff_of_true rfl trivial

theorem advance (small : Byte) (arg : Word) : Statement (.advance small arg) := iff_of_true rfl trivial

theorem fade (small : Byte) (arg : Word) : Statement (.fade small arg) := iff_of_true rfl trivial

theorem cut (small : Byte) (arg : Word) : Statement (.cut small arg) := iff_of_true rfl trivial

theorem countSet (small : Byte) (arg : Word) : Statement (.countSet small arg) := iff_of_true rfl trivial

theorem ack (small : Byte) (arg : Word) : Statement (.ack small arg) := iff_of_true rfl trivial

theorem unknownCommand (code small : Byte) (arg : Word) : Statement (.unknownCommand code small arg) := by
  simp [Statement, Instr.wf, Machine.knownCode]

theorem capturedWrite (addr : Addr) (data : Word) (lanes : Lanes) : Statement (.capturedWrite addr data lanes) := by
  simp only [Statement, Instr.wf, Lanes.used, isCapturedOffset, isStructuralOffset, isCounterOffset, Bool.and_eq_true,
    Bool.or_eq_true, Bool.not_eq_true', decide_eq_true_eq, decide_eq_false_iff_not, beq_iff_eq, bne_iff_ne,
    Bool.or_eq_false_iff, beq_eq_false_iff_ne, ne_eq, and_assoc]
  refine and_congr_right fun _ => ?_
  omega

theorem structuralSetupWrite (addr : Addr) (data : Word) (lanes : Lanes) : Statement (.structuralSetupWrite addr data lanes) := by
  simp [Statement, Instr.wf, Lanes.used, isStructuralOffset]

theorem fieldCounterModeWrite (addr : Addr) (data : Word) (lanes : Lanes) : Statement (.fieldCounterModeWrite addr data lanes) := by
  simp [Statement, Instr.wf, Lanes.used, isCounterOffset]

theorem enableMaskWrite (addr : Addr) (data : Word) (lanes : Lanes) : Statement (.enableMaskWrite addr data lanes) := by
  simp [Statement, Instr.wf, Lanes.used]

theorem reportSummaryRead (addr : Addr) (dram : ReadWord) : Statement (.reportSummaryRead addr dram) := by
  simp [Statement, Instr.wf, Lanes.used, and_assoc]

theorem displayFetch (addr : Addr) (word : FetchWord) : Statement (.displayFetch addr word) := iff_of_true rfl trivial

theorem lhsSeen : Statement .lhsSeen := iff_of_true rfl trivial

theorem lhsWindowClose : Statement .lhsWindowClose := iff_of_true rfl trivial

theorem lineZeroLvsTimeout : Statement .lineZeroLvsTimeout := iff_of_true rfl trivial

theorem localFieldStart : Statement .localFieldStart := iff_of_true rfl trivial

theorem dwellExpired : Statement .dwellExpired := iff_of_true rfl trivial

theorem localLineStart (now : Time) : Statement (.localLineStart now) := iff_of_true rfl trivial

theorem cuePulse (now : Time) : Statement (.cuePulse now) := iff_of_true rfl trivial

theorem cueFallAccepted (now : Time) : Statement (.cueFallAccepted now) := iff_of_true rfl trivial

theorem busResetRelease : Statement .busResetRelease := iff_of_true rfl trivial

theorem powerResetEnd : Statement .powerResetEnd := iff_of_true rfl trivial

theorem synthesiserCarry (now : Time) : Statement (.synthesiserCarry now) := iff_of_true rfl trivial

theorem csyncLevelChange (now : Time) (level : Level) : Statement (.csyncLevelChange now level) :=
  iff_of_true rfl trivial

theorem cueLevelChange (now : Time) (level : Level) : Statement (.cueLevelChange now level) := iff_of_true rfl trivial

end Sys2Proof.Laws.WellFormedOperands
end

