-- ==== Sys2Proof/Laws/Steps.lean ====
section
/-! SUPPORT. What the frame of an event does, and what the operations every meaning rests on can do, each said
once: owed steps, the delivery of a command, the entry of a loop state, the raising of a cause. -/

namespace Sys2Proof.Machine

variable (s : State)

/-! ### Arithmetic -/

@[simp] theorem clampInt_natCast (lo hi n : Nat) : clampInt lo hi (n : Int) = clamp lo hi n := rfl

theorem clamp_mem {lo hi : Nat} (h : lo ≤ hi) (n : Nat) : lo ≤ clamp lo hi n ∧ clamp lo hi n ≤ hi := by
  unfold clamp; omega

theorem clampInt_mem {lo hi : Nat} (h : lo ≤ hi) (x : Int) : lo ≤ clampInt lo hi x ∧ clampInt lo hi x ≤ hi :=
  clamp_mem h x.toNat

theorem bump_le (n : Nat) : bump n ≤ 65535 := by unfold bump; omega

theorem wrapCentred_mem (x : Int) {p : Nat} (hp : 0 < p) :
    -((p / 2 : Nat) : Int) ≤ wrapCentred x p ∧ wrapCentred x p < p - ((p / 2 : Nat) : Int) := by
  have h := Int.emod_nonneg (x + (p / 2 : Nat)) (show (p : Int) ≠ 0 by omega)
  have h' := Int.emod_lt_of_pos (x + (p / 2 : Nat)) (show (0 : Int) < p by omega)
  unfold wrapCentred
  omega

theorem lowByte_toNat (w : Word) : (lowByte w).toNat = w.toNat % 256 := by
  simp [lowByte, BitVec.extractLsb'_toNat]

theorem highByte_toNat (w : Word) : (highByte w).toNat = w.toNat / 256 := by
  have := w.isLt
  simp [highByte, BitVec.extractLsb'_toNat, Nat.shiftRight_eq_div_pow]
  omega

/-! ### The limits of I -/

theorem State.iMin_mem : 1048576 ≤ s.iMin ∧ s.iMin ≤ 8388607 := clamp_mem (by decide) _

theorem State.iMin_le_iMax : s.iMin ≤ s.iMax := Nat.le_max_left _ _

theorem State.iMax_mem : 1048576 ≤ s.iMax ∧ s.iMax ≤ 8388607 := by
  have h1 := s.iMin_mem
  have h2 := clamp_mem (lo := 1048576) (hi := 8388607) (by decide)
    (numAt s.setup.loop 5 * 65536 + numAt s.setup.loop 4)
  unfold State.iMax
  omega

/-- I_min depends on the setup alone. -/
theorem State.iMin_congr {s u : State} (h : u.setup = s.setup) : u.iMin = s.iMin := by simp [State.iMin, h]

/-- I_max depends on the setup alone. -/
theorem State.iMax_congr {s u : State} (h : u.setup = s.setup) : u.iMax = s.iMax := by
  simp [State.iMax, State.iMin, h]

/-- The clamp of I depends on the setup alone. -/
theorem State.clampInc_congr {s u : State} (h : u.setup = s.setup) (x : Int) : u.clampInc x = s.clampInc x := by
  simp [State.clampInc, State.iMin_congr h, State.iMax_congr h]

theorem State.clampInc_mem (x : Int) : s.iMin ≤ s.clampInc x ∧ s.clampInc x ≤ s.iMax :=
  clampInt_mem s.iMin_le_iMax x

/-! ### Owed steps and events -/

variable {s}

theorem State.expireDwell_of_not_owed (h : s.title.dwellOwed = false) : s.expireDwell = s := by
  simp [State.expireDwell, h]

theorem State.expireHoldover_of_not_owed (h : s.loop.holdoverOwed = false) : s.expireHoldover = s := by
  simp [State.expireHoldover, h]

theorem State.caughtUp_of_unowed (h : s.Unowed) : s.caughtUp = s := by
  simp [State.caughtUp, State.expireDwell, State.expireHoldover, h.2.1, h.2.2]

variable (s)

/-- After what is owed has been taken, nothing is owed. -/
theorem State.caughtUp_owes_nothing :
    s.caughtUp.title.dwellOwed = false ∧ s.caughtUp.loop.holdoverOwed = false := by
  constructor
  · simp only [State.caughtUp, State.expireHoldover_frame]
    unfold State.expireDwell
    split
    · unfold State.advanceChain; split
      · simp
      · split <;> simp [State.activate, State.deactivate]
    · rename_i h; simpa using h
  · unfold State.caughtUp State.expireHoldover
    split
    · simp [State.enter, Loop.moveTo, Loop.disengage, State.incToFreq, State.handInc]
    · rename_i h; simpa using h

theorem State.caughtUp_caughtUp : s.caughtUp.caughtUp = s.caughtUp := by
  obtain ⟨h1, h2⟩ := s.caughtUp_owes_nothing
  conv_lhs => rw [State.caughtUp]
  rw [State.expireDwell_of_not_owed h1, State.expireHoldover_of_not_owed h2]

theorem State.caughtUp_resetHeld : s.caughtUp.resetHeld = s.resetHeld := by simp

variable {s}

/-- Everything an event can do. -/
theorem eventOr_eq (held f : State → State) (s : State) :
    eventOr held f s = .next (if s.resetHeld then held s else (f s.caughtUp).drive) := rfl

theorem eventOr_unowed (held f : State → State) (h : s.Unowed) : eventOr held f s = .next (f s).drive := by
  simp [eventOr, h.1, State.caughtUp_of_unowed h]

theorem event_unowed (f : State → State) (h : s.Unowed) : event f s = .next (f s).drive := eventOr_unowed id f h

theorem event_held (f : State → State) (h : s.resetHeld = true) : event f s = .next s := by
  simp [event, eventOr, h]

/-! ### The delivery of a command -/

/-- A verdict sets the last-command result, and COMMAND REFUSED unless it is ACCEPTED (R168). -/
theorem State.giveVerdict_eq (c : Command) (v : Verdict) (s : State) :
    s.giveVerdict c v = s.afterCommand c.code s.bus.queue v := by
  cases v <;> rfl

/-- A command that leaves the queue and is judged (R166, R168). -/
theorem State.takeCommand_eq (judge : State → Verdict × State) (c : Command) (rest : List Command) (s : State) :
    s.takeCommand judge c rest =
      (judge (s.onBus fun b => { b with queue := rest })).2.giveVerdict c
        (judge (s.onBus fun b => { b with queue := rest })).1 := rfl

/-- Nothing is delivered where the queue is empty or its head must wait (R167). -/
theorem State.serve_of_headWaits (h : s.headWaits = true) : s.serve = s := by
  unfold State.headWaits at h
  unfold State.serve
  cases hq : s.bus.queue with
  | nil => simp [State.serveUntil]
  | cons c rest =>
    rw [hq] at h
    simp only [Bool.or_eq_true] at h
    split
    · rename_i hl
      have hb : s.bresetHeld = false := by simp [State.listening] at hl; exact hl.2
      unfold State.serveUntil
      simp [h.resolve_left (by simp [hb])]
    · rfl

/-- The instant moves on with nothing delivered before it. -/
theorem State.moveOn_of_headWaits (now : Time) (h : s.headWaits = true) : s.moveOn now = s.advanceTo now := by
  unfold State.moveOn; rw [State.serve_of_headWaits h]; simp

/-- Within its instant nothing need be delivered before a row. -/
theorem State.moveOn_same : s.moveOn s.timebase = s.advanceTo s.timebase := by simp [State.moveOn]

/-- With a head that can be delivered, the queue is delivered from it on (R166). -/
theorem State.serve_cons {c : Command} {rest : List Command} (h : s.Heads c rest) (hw : s.mustWait c = false) :
    s.serve = (s.takeCommand c.judge c rest).serveUntil (fun _ => false) rest := by
  unfold State.serve
  rw [h.2.2]
  simp [State.listening, h.1.1, h.2.1, State.serveUntil, hw]

/-- What every delivery keeps, the delivery of the queue keeps (R166). -/
theorem State.serveUntil_keeps {P : State → Prop} (h : ∀ c rest u, P u → P (u.takeCommand c.judge c rest))
    (stop : Command → Bool) (q : List Command) (s : State) (hs : P s) : P (s.serveUntil stop q) := by
  induction q generalizing s with
  | nil => exact hs
  | cons c q ih =>
    unfold State.serveUntil
    split
    · exact hs
    · exact ih _ (h c q s hs)

theorem State.serve_keeps {P : State → Prop} (h : ∀ c rest u, P u → P (u.takeCommand c.judge c rest)) (hs : P s) :
    P s.serve := by
  unfold State.serve
  split
  · exact State.serveUntil_keeps h _ _ _ hs
  · exact hs

theorem State.moveOn_keeps {P : State → Prop} (h : ∀ c rest u, P u → P (u.takeCommand c.judge c rest))
    (now : Time) (ha : ∀ u : State, P u → P (u.advanceTo now)) (hs : P s) : P (s.moveOn now) := by
  unfold State.moveOn
  split
  · exact ha _ hs
  · exact ha _ (State.serve_keeps h hs)

/-- A delivery leaves what it finds of the queue: the queue after it is a tail of the queue before it (R166). -/
theorem State.serveUntil_queue (stop : Command → Bool) (q : List Command) (s : State) (hs : s.bus.queue = q) :
    (s.serveUntil stop q).bus.queue <:+ q := by
  induction q generalizing s with
  | nil => simp [State.serveUntil, hs]
  | cons c q ih =>
    unfold State.serveUntil
    split
    · simp [hs]
    · refine (ih _ ?_).trans (List.suffix_cons c q)
      simp [State.takeCommand, State.judged, State.giveVerdict]

theorem State.serve_queue (s : State) : s.serve.bus.queue <:+ s.bus.queue := by
  unfold State.serve
  split
  · exact State.serveUntil_queue _ _ _ rfl
  · simp

/-- A command at the head of the queue is judged, and leaves the queue (R166). -/
theorem State.deliverInTurn_head {c : Command} {rest : List Command} (judge : State → Verdict × State)
    (h : s.Heads c rest) (hw : s.mustWait c = false) : s.deliverInTurn judge c = s.takeCommand judge c rest := by
  unfold State.deliverInTurn
  rw [h.2.2]
  simp [State.listening, h.1.1, h.2.1, State.serveUntil, State.deliver, h.2.2, hw]

/-- Everything the row of a command can do once the commands ahead of it are delivered: nothing, the joining of an empty
queue, or the judging of the command. -/
theorem State.deliver_cases (judge : State → Verdict × State) (c : Command) (s : State) :
    s.deliver judge c = s ∨ (s.bus.queue = [] ∧ s.deliver judge c = s.onBus fun b => { b with queue := [c] }) ∨
      ∃ q, q.length ≤ s.bus.queue.length ∧ s.deliver judge c = s.takeCommand judge c q := by
  unfold State.deliver
  split
  · rename_i hq
    split
    · exact .inr (.inl ⟨hq, rfl⟩)
    · exact .inr (.inr ⟨[], by simp, rfl⟩)
  · rename_i r hq
    split
    · exact .inr (.inr ⟨r, by simp [hq], rfl⟩)
    · exact .inl rfl

end Sys2Proof.Machine
end

