-- ==== Sys2Proof/Laws/Rows.lean ====
section
/-! SUPPORT. Everything a row can do, said once: its effect, what is left of it while RESET# is held, and the
inversion of exec and of step. -/

namespace Sys2Proof.Machine

/-- The effect of a row with RESET# not held. The two power rows are not events and stand for themselves. -/
def effect (c : Instr) (u : State) : State :=
  match c with
  | .powerReset .. => u
  | .powerResetEnd => u
  | .busReset => u.busReset.setBreset true
  | .busResetRelease => u.setBreset false
  | .acceptedFall now => (u.moveOn now).csyncFall
  | .acceptedRise now => (u.moveOn now).csyncRise
  | .pulseSaturation now => (u.moveOn now).saturate
  | .recordTaken => u.takeHead
  | .seekComplete => u.completeSeek
  | .lineClose now => (u.moveOn now).closeIfDue
  | .holdoverExpired => u.expireHoldover
  | .lineSettle now => (u.moveOn now).settleIfDue
  | .engage small arg => u.deliverInTurn judgeEngage ⟨0x01, small, arg⟩
  | .release small arg => u.deliverInTurn judgeRelease ⟨0x02, small, arg⟩
  | .freeze small arg => u.deliverInTurn judgeFreeze ⟨0x03, small, arg⟩
  | .resume small arg => u.deliverInTurn judgeResume ⟨0x04, small, arg⟩
  | .adopt small arg => u.deliverInTurn judgeAdopt ⟨0x08, small, arg⟩
  | .showSet small arg => u.deliverInTurn (judgeShow small) ⟨0x10, small, arg⟩
  | .stop small arg => u.deliverInTurn judgeStop ⟨0x11, small, arg⟩
  | .advance small arg => u.deliverInTurn judgeAdvance ⟨0x12, small, arg⟩
  | .fade small arg => u.deliverInTurn (judgeFade small arg) ⟨0x20, small, arg⟩
  | .cut small arg => u.deliverInTurn (judgeCut small arg) ⟨0x21, small, arg⟩
  | .countSet small arg => u.deliverInTurn (judgeCountSet arg) ⟨0x30, small, arg⟩
  | .ack small arg => u.deliverInTurn (judgeAck arg) ⟨0x40, small, arg⟩
  | .unknownCommand code small arg => if knownCode code then u else u.deliverInTurn judgeUnknown ⟨code, small, arg⟩
  | .capturedWrite a w l => u.serve.cpuWrite a w l
  | .structuralSetupWrite a w l => u.serve.cpuWrite a w l
  | .fieldCounterModeWrite a w l => u.serve.cpuWrite a w l
  | .enableMaskWrite a w l => u.serve.cpuWrite a w l
  | .reportSummaryRead a w => u.serve.cpuRead a w
  | .displayFetch a w => (u.serve.fetchCycle a w).judgeFetch w.word
  | .lhsSeen => u.sampleLhs
  | .lhsWindowClose => u.closeWindow
  | .lineZeroLvsTimeout => u.timeoutLvs
  | .localFieldStart => u.sampleLvs
  | .dwellExpired => u.expireDwell
  | .localLineStart now => (u.moveOn now).lineStart
  | .cuePulse now => (u.moveOn now).cueRise
  | .cueFallAccepted now => (u.moveOn now).cueFall
  | .synthesiserCarry now => (u.moveOn now).carry
  | .csyncLevelChange now l => (u.moveOn now).csyncLevel l
  | .cueLevelChange now l => (u.moveOn now).cueLevel l

/-- What is left of a row while RESET# is held: the levels of the input pins, and the bus cycle (log 10). -/
def heldEffect (c : Instr) (u : State) : State :=
  match c with
  | .busReset => u.setBreset true
  | .busResetRelease => u.setBreset false
  | .capturedWrite a w l => u.passCycle (.write a w l)
  | .structuralSetupWrite a w l => u.passCycle (.write a w l)
  | .fieldCounterModeWrite a w l => u.passCycle (.write a w l)
  | .enableMaskWrite a w l => u.passCycle (.write a w l)
  | .reportSummaryRead a w => (u.passCycle (.read a w.lanes)).answer w.word
  | .displayFetch a w => u.fetchCycle a w
  | .csyncLevelChange _ l => u.setRawCsync l
  | .cueLevelChange _ l => u.setRawCue l
  | _ => u

/-- A row that is an event: every row but the two power rows. -/
abbrev IsEvent (c : Instr) : Prop := (∀ b d st, c ≠ .powerReset b d st) ∧ c ≠ .powerResetEnd

/-- Every row but the power rows is an event. -/
theorem exec_eq_eventOr {c : Instr} {s : State} (hc : IsEvent c) : exec c s = eventOr (heldEffect c) (effect c) s := by
  cases c with
  | powerReset b d st => exact absurd rfl (hc.1 b d st)
  | powerResetEnd => exact absurd rfl hc.2
  | _ => rfl

/-- A row with nothing owed answers its effect, with the pins following. -/
theorem exec_unowed {c : Instr} {s : State} (hc : IsEvent c) (h : s.Unowed) : exec c s = .next (effect c s).drive := by
  rw [exec_eq_eventOr hc, eventOr_unowed _ _ h]

/-- No row ends in a fault or a refusal. -/
theorem exec_completes (c : Instr) (s : State) : ∃ t, exec c s = .next t := by
  by_cases h1 : ∃ b d st, c = .powerReset b d st
  · obtain ⟨b, d, st, rfl⟩ := h1
    exact ⟨_, rfl⟩
  by_cases h2 : c = .powerResetEnd
  · subst h2
    exact ⟨_, rfl⟩
  exact ⟨_, exec_eq_eventOr ⟨fun b d st e => h1 ⟨b, d, st, e⟩, h2⟩⟩

/-- The state a row answers: a power reset, its end, what is left while RESET# is held, or the row's effect on the state
in which nothing is owed. -/
theorem exec_next {c : Instr} {s t : State} (h : exec c s = .next t) :
    (∃ b d st, c = .powerReset b d st ∧
      t = State.powerReset b d st s.rawCsync s.rawCue true s.bresetHeld s.choices s.pending) ∨
    (c = .powerResetEnd ∧ t = if s.resetHeld then s.releaseReset.drive else s) ∨
    (IsEvent c ∧ s.resetHeld = true ∧ t = heldEffect c s) ∨
    (IsEvent c ∧ s.resetHeld = false ∧ t = (effect c s.caughtUp).drive) := by
  by_cases h1 : ∃ b d st, c = .powerReset b d st
  · obtain ⟨b, d, st, rfl⟩ := h1
    exact .inl ⟨b, d, st, rfl, (Host.Outcome.next.inj h).symm⟩
  by_cases h2 : c = .powerResetEnd
  · subst h2
    exact .inr (.inl ⟨rfl, (Host.Outcome.next.inj h).symm⟩)
  have hc : IsEvent c := ⟨fun b d st e => h1 ⟨b, d, st, e⟩, h2⟩
  rw [exec_eq_eventOr hc, eventOr_eq] at h
  have h := (Host.Outcome.next.inj h).symm
  cases hr : s.resetHeld with
  | true => exact .inr (.inr (.inl ⟨hc, rfl, by rw [hr] at h; exact h⟩))
  | false => exact .inr (.inr (.inr ⟨hc, rfl, by rw [hr] at h; exact h⟩))

/-- The state a step answers on an empty queue: as it was, with a step put into the queue, or a tick on. -/
theorem idle_cases (s : State) :
    s.idle = s ∨ (∃ i n, s.idle = (s.setPending [i]).setChoices n) ∨ (s.resetHeld = false ∧ s.idle = s.tick) := by
  unfold State.idle
  split
  · exact .inl rfl
  · rename_i hr
    split
    · exact .inr (.inr ⟨by simpa using hr, rfl⟩)
    · rename_i i rest _
      refine .inr (.inl ?_)
      unfold State.queueOne
      split
      · exact ⟨i, s.choices, rfl⟩
      · exact ⟨_, _, rfl⟩

end Sys2Proof.Machine
end

