-- ==== Sys2Proof/Laws/Terms.lean ====
section
/-! SUPPORT. The operations of the meanings in the terms of Sys2Proof.Safety, each said once, so that a proof about a
row rewrites with them and unfolds no operation. -/

namespace Sys2Proof.Machine

/-! ### Glitch filters -/

/-- A run that has lasted the width that judges it is ripe, with its start stamp. -/
theorem Filter.ripe_of_le {w : Nat} {now t0 : Time} {f : Filter} (h : f.run = some t0)
    (hw : (f.widthAt w now : Int) ≤ (now - t0).toInt) : f.ripe w now = some t0 := by
  unfold Filter.ripe Machine.sdiff; rw [h]; exact if_pos hw

/-- A run that has not lasted the width that judges it is not ripe. -/
theorem Filter.ripe_of_lt {w : Nat} {now t0 : Time} {f : Filter} (h : f.run = some t0)
    (hw : (now - t0).toInt < f.widthAt w now) : f.ripe w now = none := by
  unfold Filter.ripe Machine.sdiff; rw [h]; exact if_neg (by omega)

/-- With no width taken at a tick, the width in force judges a run on it (R2, R153). -/
theorem Filter.widthAt_of_none {w : Nat} {now : Time} {f : Filter} (h : f.hold = none) : f.widthAt w now = w := by
  simp [Filter.widthAt, h]

/-- With no run in progress nothing is ripe. -/
theorem Filter.ripe_of_none {w : Nat} {now : Time} {f : Filter} (h : f.run = none) :
  f.ripe w now = none := by
  simp [Filter.ripe, h]

/-! ### Records -/

/-- What the pulse queue does with a completed record (R7). -/
theorem State.enqueuePulse_eq (p : Pulse) (s : State) : s.enqueuePulse p = s.queued p := by
  unfold State.enqueuePulse State.queued
  split <;> (simp [State.onFront, State.raise, State.onAtt] <;> rfl)

/-- With no seek computation in flight the head of the pulse queue is taken (R8, R27). -/
theorem State.takeHead_eq {s : State} {p : Pulse} {rest : List Pulse} (hq : s.front.queue = p :: rest)
    (hf : s.loop.seek.inFlight = false) :
    s.takeHead = ({ s with front := { s.front with queue := rest } } : State).takeRecord p := by
  unfold State.takeHead; rw [hq]; simp only [hf]; rfl

/-- Outside OFF and SEEK a record is judged against the line it is given to (R27). -/
theorem State.takeRecord_eq {s : State} {p : Pulse} (h1 : s.loop.state ≠ .off) (h2 : s.loop.state ≠ .seek) :
   s.takeRecord p = match s.loop.lineFor p.lead with | none => s | some o => s.judgeRecord p o := by
  unfold State.takeRecord
  cases hst' : s.loop.state <;> first | exact absurd hst' h1 | exact absurd hst' h2 | rfl

/-- A record taken and given to a line (R27). -/
theorem State.takeHead_given {s : State} {p : Pulse} {rest : List Pulse} {o : OpenLine}
    (hq : s.front.queue = p :: rest) (hf : s.loop.seek.inFlight = false)
   (h1 : s.loop.state ≠ .off) (h2 : s.loop.state ≠ .seek) (hl : s.loop.lineFor p.lead = some o) :
   s.takeHead = ({ s with front := { s.front with queue := rest } } : State).judgeRecord p o := by
  rw [State.takeHead_eq hq hf, State.takeRecord_eq (s :=
      ({ s with front := { s.front with queue := rest } } : State)) h1 h2,
      show ({ s with front := { s.front with queue := rest } } : State).loop.lineFor p.lead = some o from hl]

/-! ### Edges -/

/-- The open lines after an edge on line `n` (R28, R30). -/
theorem Loop.rebase_lines (t : Time) (n pb16 : Nat) (l : Loop) (h : l.pb16 = pb16) :
    ((l.rebase t n).onLine n (fun o => { o with edge := true })).lines = edgeLines t n pb16 l.lines := by
  subst h
  simp only [Loop.onLine, Loop.rebase, edgeLines, List.map_map]
  apply List.map_congr_left
  intro x _
  simp only [Function.comp]
  split
  · rename_i hl
    simp [show x.line ≠ n by omega]
  · simp only [Loop.predict, Loop.span]
    split <;> rename_i h2 <;> simp [h2]

/-- What a line close leaves (R33). -/
theorem State.closeLine_frame' (t : Time) (u : State) :
    (u.closeLine t).setup = u.setup ∧ (u.closeLine t).raster = u.raster ∧ (u.closeLine t).choices = u.choices ∧
    (u.closeLine t).timebase = u.timebase ∧ (u.closeLine t).loop.state = u.loop.state ∧
    (u.closeLine t).loop.freq = u.loop.freq ∧ (u.closeLine t).loop.lockCount = u.loop.lockCount ∧
    (u.closeLine t).loop.unlockCount = u.loop.unlockCount ∧ (u.closeLine t).loop.returnCount = u.loop.returnCount ∧
    (u.closeLine t).loop.base = u.loop.base ∧ (u.closeLine t).loop.baseLine = u.loop.baseLine ∧
    (u.closeLine t).loop.pb16 = u.loop.pb16 ∧ (u.closeLine t).loop.valid = u.loop.valid ∧
    (u.closeLine t).loop.lines = u.loop.closeLast.lines := by
  have hb : ∀ w : State, (w.broadcastLine t).loop = w.loop ∧ (w.broadcastLine t).setup = w.setup ∧
      (w.broadcastLine t).raster = w.raster ∧ (w.broadcastLine t).choices = w.choices ∧
      (w.broadcastLine t).timebase = w.timebase := by
    intro w; simp
  have hl : u.loop.closeLast.state = u.loop.state ∧ u.loop.closeLast.freq = u.loop.freq ∧
      u.loop.closeLast.lockCount = u.loop.lockCount ∧ u.loop.closeLast.unlockCount = u.loop.unlockCount ∧
      u.loop.closeLast.returnCount = u.loop.returnCount ∧ u.loop.closeLast.base = u.loop.base ∧
      u.loop.closeLast.baseLine = u.loop.baseLine ∧ u.loop.closeLast.pb16 = u.loop.pb16 ∧
      u.loop.closeLast.valid = u.loop.valid := by
    unfold Loop.closeLast; split <;> simp
  unfold State.closeLine State.countHoldover
  split <;> simp [hl, State.onLoop]

/-- Parts 1 to 4 of an accepted edge (R31). -/
theorem State.edgeTaken_eq (t : Time) (o : OpenLine) (u : State)
    (hst : u.loop.state = .pull ∨ u.loop.state = .locked ∨ u.loop.state = .coast) :
   (if o.closed then (((u.onAccum FieldMeasure.addAccepted).takeInterval t o.line).takeEdge t o.line).clearMissed else  ((((u.onAccum FieldMeasure.addAccepted).takeInterval t o.line).takeEdge t o.line).clearMissed).closeLine t) = u.edgeTaken t o := by
  have hm := fun pb16 => Loop.rebase_lines t o.line pb16 { u.loop with pb16 := pb16 } rfl
  have key : ∀ (b : Bool) (x y : State), x = y → (if b then x else x.closeLine t) =
      (if b then y else y.closeLine t) := by
    intro b x y h; rw [h]
  apply key
  by_cases h1 : u.loop.refLine + 1 = o.line
  · by_cases h2 : u.front.accum.shortest = 0 ∧ u.front.accum.longest = 0
    · simp only [State.takeInterval, State.onAccum, State.onFront, State.onLoop, FieldMeasure.addInterval,
        FieldMeasure.addAccepted, bump, h1, h2, State.clearMissed, State.takeEdge, if_true, not_true,
        if_false, Loop.onLine, Loop.rebase] at hm ⊢
      simp only [hm]
      rcases hst with hst | hst | hst <;> simp only [hst] <;> rfl
    · simp only [State.takeInterval, State.onAccum, State.onFront, State.onLoop, FieldMeasure.addInterval,
        FieldMeasure.addAccepted, bump, h1, h2, State.clearMissed, State.takeEdge, if_true, not_true,
        if_false, Loop.onLine, Loop.rebase] at hm ⊢
      simp only [hm]
      rcases hst with hst | hst | hst <;> simp only [hst] <;> rfl
  · simp only [State.takeInterval, State.onAccum, State.onFront, State.onLoop, FieldMeasure.addInterval,
      FieldMeasure.addAccepted, bump, h1, State.clearMissed, State.takeEdge, if_true, if_false,
      not_false_eq_true, Loop.onLine, Loop.rebase] at hm ⊢
    simp only [hm]
    rcases hst with hst | hst | hst <;> simp only [hst] <;> rfl

/-- What parts 1 to 4 of an accepted edge leave (R31). -/
theorem State.edgeTaken_frame (t : Time) (o : OpenLine) (u : State) :
    (u.edgeTaken t o).setup = u.setup ∧ (u.edgeTaken t o).raster = u.raster ∧
    (u.edgeTaken t o).choices = u.choices ∧ (u.edgeTaken t o).loop.state = u.loop.state ∧
    (u.edgeTaken t o).loop.freq = u.loop.freq ∧ (u.edgeTaken t o).loop.lockCount = u.loop.lockCount ∧
    (u.edgeTaken t o).loop.unlockCount = u.loop.unlockCount ∧
    (u.edgeTaken t o).loop.returnCount = u.loop.returnCount := by
  simp only [State.edgeTaken]
  cases o.closed <;> simp [State.closeLine_frame']

/-- An accepted edge: parts 1 to 4, then what the state makes of it (R30, R31). -/
theorem State.takeHead_accepted {s : State} {p : Pulse} {rest : List Pulse} {o : OpenLine}
    (hst : s.loop.state = .pull ∨ s.loop.state = .locked ∨ s.loop.state = .coast)
   (hq : s.front.queue = p :: rest) (hf : s.loop.seek.inFlight = false)
   (hl : s.loop.lineFor p.lead = some o) (hc : p.cls = .line) (he : o.edge = false)
   (hoff : (p.lead - o.pred).toInt.natAbs ≤ s.gN ∨ ((p.lead - o.pred).toInt.natAbs ≤ s.gW ∧ s.loop.state ≠ .locked)) :
   s.takeHead = (({ s with front := { s.front with queue := rest } } : State).edgeTaken p.lead o).settleEdge p.lead :=
       by
  rw [State.takeHead_given hq hf (by rcases hst with h | h | h <;> simp [h]) (by rcases hst with h | h | h <;> simp [h]) hl]
  unfold State.judgeRecord
  rw [hc]
  simp only [he, Bool.false_eq_true, if_false]
  generalize hu : ({ s with front := { s.front with queue := rest } } : State) = u
  have e1 : u.gN = s.gN := by rw [← hu]; rfl
  have e2 : u.gW = s.gW := by rw [← hu]; rfl
  have e3 : u.loop.state = s.loop.state := by rw [← hu]
  rw [e1, e2]
  have hacc : (if o.closed then (((u.onAccum FieldMeasure.addAccepted).takeInterval p.lead o.line).takeEdge p.lead o.line).clearMissed else  ((((u.onAccum FieldMeasure.addAccepted).takeInterval p.lead o.line).takeEdge p.lead o.line).clearMissed).closeLine p.lead) = u.edgeTaken p.lead o :=
    State.edgeTaken_eq _ _ _ (by rw [e3]; exact hst)
  have hacc' : u.acceptEdge p.lead o = (u.edgeTaken p.lead o).settleEdge p.lead := by
    unfold State.acceptEdge; rw [← hacc]
  by_cases hn : (Machine.sdiff p.lead o.pred).natAbs ≤ s.gN
  · rw [if_pos hn]
    unfold State.normalEdge
    rcases hst with h | h | h <;> rw [e3, h] <;> exact hacc'
  · rw [if_neg hn]
    obtain ⟨h1, h2⟩ := hoff.resolve_left hn
    rw [if_pos (show (Machine.sdiff p.lead o.pred).natAbs ≤ s.gW from h1)]
    unfold State.wideEdge
    rcases hst with h | h | h
    · rw [e3, h]; exact hacc'
    · exact absurd h h2
    · rw [e3, h]; exact hacc'

/-! ### The seek closes the lines it has passed -/

theorem roundDiv_sixteen (n : Nat) : roundDiv n 16 = (n + 8) / 16 := by unfold roundDiv; omega

/-- A time ahead of the timebase has not been reached. -/
theorem later_not_reached (D S : Nat) (hD : D < 2 ^ 32) (h : D < S) (h2 : S ≤ D + 65536) (edge tb : Time)
    (htb : (tb - edge).toNat = D) :
   (tb - later edge S).toInt < 1 := by
  have : tb - later edge S = BitVec.ofNat 32 D - BitVec.ofNat 32 S := by
    have : BitVec.ofNat 32 D = tb - edge :=
        by rw [← htb]; exact (BitVec.ofNat_toNat 32 (tb - edge)).trans (BitVec.setWidth_eq _)
    rw [this]; unfold later; generalize BitVec.ofNat 32 S = x; bv_omega
  rw [this]
  have e : (BitVec.ofNat 32 D - BitVec.ofNat 32 S).toNat = 2 ^ 32 - (S - D) := by
    rw [BitVec.toNat_sub, BitVec.toNat_ofNat, BitVec.toNat_ofNat]; omega
  rw [BitVec.toInt_eq_toNat_cond, e]; split <;> omega

/-- After the closes that R47 asks for, no line is due to close. -/
theorem State.closePassed_closeDue (D : Nat) (edge : Time) (pb16 : Nat) (h1 : 1 ≤ pb16) (h2 : pb16 ≤ 1048560)
    (hD32 : D < 2 ^ 32):
   ∀ (fuel : Nat) (u : State) (n : Nat), u.loop.base = edge → u.loop.baseLine = 0 → u.loop.pb16 = pb16 →
       u.loop.state = .pull → 
     (u.timebase - edge).toNat = D → 
     (∃ o, u.loop.lines.getLast? = some o ∧ o.line = n ∧ o.pred = later edge (roundDiv (n * pb16) 16)) → 
     (n * pb16 + 8) / 16 ≤ D + 65536 → 16 * D + 17 ≤ fuel + n → 1 ≤ n → (u.closePassed fuel).closeDue = none := by
  have hgt : ∀ (u : State) (n : Nat), u.loop.state = .pull → (u.timebase - edge).toNat = D → 
     (∃ o, u.loop.lines.getLast? = some o ∧ o.line = n ∧ o.pred = later edge (roundDiv (n * pb16) 16)) → 
     (n * pb16 + 8) / 16 ≤ D + 65536 → D < (n * pb16 + 8) / 16 → u.closeDue = none := by
    rintro u n hst hD ⟨o, ho, hon, hop⟩ ha hb
    unfold State.closeDue
    rw [ho]
    simp only
    rw [if_neg]
    rintro ⟨_, hg⟩
    have := later_not_reached D ((n * pb16 + 8) / 16) hD32 hb ha edge u.timebase hD
    rw [hop, roundDiv_sixteen] at hg
    have hg1 : 1 ≤ u.gate := by
      unfold State.gate; rw [hst]
      have : 1 ≤ u.gN := (clamp_mem (by decide) _).1
      have : u.gN ≤ u.gW := Nat.le_max_left _ _
      show 1 ≤ u.gW
      omega
    have : (u.timebase - later edge ((n * pb16 + 8) / 16)).toInt < 1 := this
    have hg' : (u.gate : Int) ≤ (u.timebase - later edge ((n * pb16 + 8) / 16)).toInt := hg
    omega
  intro fuel
  induction fuel with
  | zero =>
    intro u n hb hbl hp hst hD hl hn hf h1n
    refine hgt u n hst hD hl hn ?_
    have : n * 1 ≤ n * pb16 := Nat.mul_le_mul_left n h1
    omega
  | succ f ih =>
    intro u n hb hbl hp hst hD hl hn hf h1n
    unfold State.closePassed
    cases hc : u.closeDue with
    | none => exact hc
    | some t =>
      simp only
      have hle : (n * pb16 + 8) / 16 ≤ D := by
        by_contra hcon
        have := hgt u n hst hD hl hn (by omega)
        rw [hc] at this; simp at this
      obtain ⟨-, -, -, f3, f1, -, -, -, -, f5, f6, f7, -, f4⟩ := State.closeLine_frame' t u
      obtain ⟨o, ho, hon, hop⟩ := hl
      refine ih (u.closeLine t) (n + 1) (by rw [f5, hb]) (by rw [f6, hbl]) (by rw [f7, hp]) (by rw [f1,
          hst]) (by rw [f3, hD]) ?_ ?_ (by omega) (by omega)
      · refine ⟨u.loop.newLine (n + 1), ?_, ?_, ?_⟩
        · rw [f4]; unfold Loop.closeLast; rw [ho]; simp only [hon]
          simp
        · rfl
        · simp only [Loop.newLine, Loop.predict, Loop.span, hbl, hp, hb, Nat.sub_zero]
      · have : (n + 1) * pb16 = n * pb16 + pb16 := by ring
        omega

/-! ### Commands -/

theorem State.onBus_queue_self {s : State} {q : List Command} (h : s.bus.queue = q) :
    (s.onBus fun b => { b with queue := q }) = s := by
  rcases s with ⟨_,_,_,_,_,_,_,_,_,_,_,_,_,_,⟨_,_,_,_,_,_,_,_,_⟩⟩
  subst h; rfl

/-- The row of the command at the head of the queue (R166). -/
theorem exec_head {s : State} {c : Command} {rest : List Command} {judge : State → Verdict × State} {i : Instr}
    (h : s.Heads c rest) (hw : s.mustWait c = false) (he : effect i s = s.deliverInTurn judge c) (hi : IsEvent i) :
    exec i s = .next (s.takeCommand judge c rest).drive := by
  rw [exec_unowed hi h.1, he, State.deliverInTurn_head judge h hw]

theorem State.mustWait_of_not_inFlight {s : State} {c : Command} (h : s.loop.seek.inFlight = false) : s.mustWait c =
    false := by
  simp [State.mustWait, h]

theorem State.mustWait_of_not_loop (s : State) (c : Command) (h : c.isLoop = false) : s.mustWait c = false :=
    by simp [State.mustWait, h]

/-- The row that a queued command's code names judges it as the command table does (R166, section 9.5). -/
theorem Command.row_effect (c : Command) :
    (∀ s, effect c.row s = s.deliverInTurn c.judge c) ∧ IsEvent c.row := by
  rcases c with ⟨code, small, arg⟩
  by_cases h : knownCode code
  · have : code = 0x01 ∨ code = 0x02 ∨ code = 0x03 ∨ code = 0x04 ∨ code = 0x08 ∨ code = 0x10 ∨ code = 0x11 ∨
      code = 0x12 ∨ code = 0x20 ∨ code = 0x21 ∨ code = 0x30 ∨ code = 0x40 := by
      simpa [knownCode] using h
    rcases this with h | h | h | h | h | h | h | h | h | h | h | h <;> subst h <;>
      exact ⟨fun _ => rfl, by simp [IsEvent, Command.row]⟩
  · have hr : (Command.mk code small arg).row = .unknownCommand code small arg ∧
        (Command.mk code small arg).judge = judgeUnknown := by
      constructor
      · unfold Command.row
        simp only
        split <;> first
          | rfl
          | (exfalso; apply h; rename_i hx; rw [show code = BitVec.ofNat 8 code.toNat by simp, hx]; decide)
      · unfold Command.judge
        simp only
        split <;> first
          | rfl
          | (exfalso; apply h; rename_i hx; rw [show code = BitVec.ofNat 8 code.toNat by simp, hx]; decide)
    refine ⟨fun s => ?_, by simp [IsEvent, hr.1]⟩
    rw [hr.1, hr.2]; simp [effect, h]

/-- The row of the command at the head of the queue judges it as the command table does (R166). -/
theorem Command.exec_row {s : State} {c : Command} {rest : List Command} (h : s.Heads c rest)
    (hw : s.mustWait c = false) : exec c.row s = .next (s.takeCommand c.judge c rest).drive :=
  exec_head h hw (c.row_effect.1 s) c.row_effect.2

/-! ### Bus cycles -/

theorem State.offsetOf_of_mem {s : State} {a : Addr} {o : Nat} (h : a.toNat = s.bus.base.toNat + o)
    (ho : o ≤ 2047) : s.offsetOf a = some o := by
  unfold State.offsetOf; rw [if_pos (by omega)]; congr 1; omega

theorem State.offsetOf_of_not_mem {s : State} {a : Addr}
    (h : a.toNat < s.bus.base.toNat ∨ s.bus.base.toNat + 2047 < a.toNat) : s.offsetOf a = none := by
  unfold State.offsetOf; rw [if_neg (by omega)]

/-- Capture lane by lane, as numbers (R160). -/
theorem mergeLanes_eq (old w : Word) (l : Lanes) : mergeLanes old w l = BitVec.ofNat 16
    ((if l.high then w.toNat / 256 else old.toNat / 256) * 256 +
    (if l.low then w.toNat % 256 else old.toNat % 256)) := by
  apply BitVec.eq_of_toNat_eq
  unfold mergeLanes
  rw [BitVec.toNat_append, BitVec.toNat_ofNat]
  have h1 := w.isLt; have h2 := old.isLt
  rw [Nat.mod_eq_of_lt]
  · rw [Nat.shiftLeft_eq]
    rw [show (256:Nat) = 2^8 from rfl, Nat.mul_comm _ (2^8), Nat.mul_comm _ (2^8), ← Nat.two_pow_add_eq_or_of_lt]
    · rcases l with ⟨_|_, _|_⟩ <;> simp [lowByte_toNat, highByte_toNat]
    · exact BitVec.isLt _
  · rcases l with ⟨_|_, _|_⟩ <;> simp <;> omega

/-- The capture of a write into a shadow (R160). -/
theorem writeAt_eq {n : Nat} (v : Vector Word n) (i : Nat) (h : i < n) (w : Word) (l : Lanes) : writeAt v i w l =
    v.set i (BitVec.ofNat 16 ((if l.high then w.toNat / 256 else v[i].toNat / 256) * 256 +
    (if l.low then w.toNat % 256 else v[i].toNat % 256))) := by
  unfold writeAt
  rw [mergeLanes_eq]
  have : wordAt v i = v[i] := by simp [wordAt, h]
  rw [this]
  ext j hj
  simp [Vector.getElem_setIfInBounds, Vector.getElem_set]

/-- A write to the cue area is captured by the word it reaches (R160). -/
theorem State.cpuWrite_of_mem {a : Addr} {o : Nat} {w : Word} {l : Lanes} {s : State} (hb : s.bresetHeld = false)
    (h : a.toNat = s.bus.base.toNat + o) (ho : o ≤ 2047) :
   s.cpuWrite a w l = (s.passCycle (.write a w l)).capturePlace (placeOf o) w l := by
  unfold State.cpuWrite
  simp only [hb, Bool.false_eq_true, if_false]
  rw [State.offsetOf_of_mem (o := o) h ho]

theorem mergeLanes_full (old w : Word) : mergeLanes old w ⟨true, true⟩ = w := by
  rw [mergeLanes_eq]; apply BitVec.eq_of_toNat_eq; rw [BitVec.toNat_ofNat]; have := w.isLt; simp; omega

theorem writeAt_full {n : Nat} (v : Vector Word n) (i : Nat) (h : i < n) (w : Word) : writeAt v i w ⟨true, true⟩ =
    v.set i w := by
  unfold writeAt; rw [mergeLanes_full]; ext j hj; simp [Vector.getElem_setIfInBounds, Vector.getElem_set]

/-! ### Keying -/

/-- The cell of a fetch for one column (R112, R119). -/
theorem State.fetchCell_eq (s : State) (first : Int) (i idx : Nat) :
    s.fetchCell (first + i) idx =
      if first + i < 0 ∨ (s.keyer.span = .pastWrap ∨
          (s.keyer.span = .begun ∧ first + i + s.keyer.colZero ≤ s.raster.dot)) then none
      else some (s.decidePixel (first + i).toNat idx) := by
  unfold State.fetchCell State.columnPast
  by_cases h : first + i < 0
  · simp [h]
  · have hn : ((first + i).toNat : Int) = first + i := by omega
    have hle : (first + i).toNat + s.keyer.colZero ≤ s.raster.dot ↔ first + i + s.keyer.colZero ≤ s.raster.dot := by
      omega
    cases s.keyer.span <;> simp [h, hle]

/-- The computer shown at a level (R117). -/
theorem cellOf_eq (n : Nat) : cellOf n = keyOf n := by
  unfold cellOf keyOf
  by_cases h : n = 0 <;> simp [h, KeyCell.programme]

/-- The first of six that satisfies a test (R115). -/
theorem find_first_window {α : Type} (v : Vector α 6) (p : α → Bool) :
   (v.toList.find? p = none ↔ ∀ j : Fin 6, p v[j] = false) ∧
       (∀ j : Fin 6, p v[j] = true → (∀ k : Fin 6, k < j → p v[k] = false) → v.toList.find? p = some v[j]) := by
  constructor
  · rw [List.find?_eq_none]
    constructor
    · intro h j; have := h v[j] (by simp); simpa using this
    · intro h x hx
      rw [Vector.mem_toList_iff, Vector.mem_iff_getElem] at hx
      obtain ⟨i, hi, rfl⟩ := hx
      have := h ⟨i, hi⟩; simpa using this
  · intro j h1 h2
    rw [List.find?_eq_some_iff_getElem]
    refine ⟨h1, j.val, by simp, by simp, ?_⟩
    intro k hk
    have := h2 ⟨k, by omega⟩ hk
    simpa using this

/-- The cell presented in a keying line that has begun (R120). -/
theorem Keyer.cellFor_begun (k : Keyer) (d : Nat) (h : k.span = .begun) : k.cellFor d = shownAt d k.colZero k.delay :=
    by
  unfold Keyer.cellFor shownAt
  rw [if_pos h]
  congr 2
  funext r
  unfold KeyRecord.cellAt
  by_cases hc : r.first ≤ (d : Int) - k.colZero ∧ (d : Int) - k.colZero ≤ r.first + 3
  · rw [if_pos hc, if_pos (by omega)]
  · rw [if_neg hc, if_neg (by omega)]

theorem Keyer.cellFor_of_not_begun (k : Keyer) (d : Nat) (h : k.span ≠ .begun) : k.cellFor d = KeyCell.programme := by
  unfold Keyer.cellFor; rw [if_neg h]

/-! ### The raster counter -/

/-- A raster fault (R76). -/
theorem State.rasterFault_eq (s : State) : s.rasterFault = s.faulted := by
  unfold State.rasterFault State.handMismatch
  have : (((s.raise .rasterFault).onKeyer fun k => { k with rasterSource := true }).onRaster fun r =>
    { r with phase := .hunt, frameLen := none, renumber := false, lhsMissed := false, lvsMissed :=
        false }).frameMismatch = false := rfl
  rw [this]
  rfl

/-- The value of the line counter at the next local line start (R67). -/
theorem Raster.nextLine_eq (r : Raster) : r.nextLine = if r.renumber = true ∨ r.frameLen = some (r.line + 1) ∨
    r.line = 2047 then 0 else r.line + 1 := by
  unfold Raster.nextLine
  by_cases h1 : r.renumber = true
  · simp [h1]
  · simp [h1]

end Sys2Proof.Machine
end

