-- ==== Sys2Proof/Tests/Slice0.lean ====
section
/-! SUPPORT. The model's own tests: each check of WellFormed refuses an ill-formed command; one step at a time against the
worked numbers of spec/ (the source stands with each test); and for each statement with hypotheses a state and operands
that meet them, clause by clause, at the ends of each range. -/

namespace Sys2Proof.Tests

open Sys2Proof Sys2Proof.Machine

/-! ### Ill-formed commands -/

theorem test_wf_unknown_code : (Instr.unknownCommand 0x40 0 0).wf = false := by decide
theorem test_wf_captured_no_lane : (Instr.capturedWrite 0x7C1 0 ⟨false, false⟩).wf = false := by decide
theorem test_wf_captured_plain : (Instr.capturedWrite 0x049 0 ⟨true, true⟩).wf = false := by decide
theorem test_wf_captured_structural : (Instr.capturedWrite 0x00B 0 ⟨true, true⟩).wf = false := by decide
theorem test_wf_captured_counter : (Instr.capturedWrite 0x02A 0 ⟨true, true⟩).wf = false := by decide
theorem test_wf_captured_mask : (Instr.capturedWrite 0x048 0 ⟨true, true⟩).wf = false := by decide
theorem test_wf_structural_no_lane : (Instr.structuralSetupWrite 0 0 ⟨false, false⟩).wf = false := by decide
theorem test_wf_structural_live : (Instr.structuralSetupWrite 0x00C 0 ⟨true, true⟩).wf = false := by decide
theorem test_wf_counter_no_lane : (Instr.fieldCounterModeWrite 0x02A 0 ⟨false, false⟩).wf = false := by decide
theorem test_wf_counter_other : (Instr.fieldCounterModeWrite 0x02C 0 ⟨true, true⟩).wf = false := by decide
theorem test_wf_mask_no_lane : (Instr.enableMaskWrite 0x048 0 ⟨false, false⟩).wf = false := by decide
theorem test_wf_mask_other : (Instr.enableMaskWrite 0x047 0 ⟨true, true⟩).wf = false := by decide
theorem test_wf_read_plain : (Instr.reportSummaryRead 0x7DF ⟨0, ⟨true, true⟩⟩).wf = false := by decide
theorem test_wf_read_no_lane : (Instr.reportSummaryRead 0x7E0 ⟨0, ⟨false, false⟩⟩).wf = false := by decide
theorem test_wf_write : (Instr.capturedWrite 0x7C1 0 ⟨false, true⟩).wf = true := by decide

/-! ### Small states -/

/-- The state a step answers. -/
def after : Host.Outcome State Fault Refusal → State
  | .next s => s
  | _ => State.reset

/-- An open line with no marks but those given. -/
def openLine (n : Nat) (pred : Time) (closed : Bool := false) : OpenLine :=
  { line := n, pred := pred, closed := closed, edge := false, excused := false, candidate := false }

/-- The loop of 02 "Worked example: one locked line": its edge reference at 196,540, line k (here 2) predicted at 200,000
and, where `closed`, closed, with line k + 1 the next to close. -/
def tracking (st : LoopState) (closed : Bool := false) : State :=
  { State.reset with
    loop := { State.reset.loop with
      state := st, valid := true, base := 196540, baseLine := 1, refTime := 196540, refLine := 1, priorPred := 196540
      lines := if closed then [openLine 2 200000 true, openLine 3 203456] else [openLine 2 200000] }
    raster := { State.reset.raster with lastStart := 200000 } }

/-- A record at the head of the pulse queue. -/
def withRecord (cls : PulseClass) (t : Time) (s : State) : State :=
  { s with front := { s.front with queue := [{ lead := t, width := 254, cls := cls }] } }

/-- A command at the head of the command queue. -/
def withCommand (code small : Byte) (arg : Word) (s : State) : State :=
  { s with bus := { s.bus with queue := [⟨code, small, arg⟩] } }

/-- A set active. -/
def withActive (i : Fin 4) (s : State) : State := { s with title := { s.title with active := some i, remaining := 1 } }

/-- The slew record of 05 "Worked profile: a three-line slew", with its level and distance given. -/
def slewing (level distance : Nat) : State :=
  { tracking .slew with
    align := { count := 0, forward := true, distance := distance, stepA := 8, top := 12, level := level, abandon := false } }

/-- A raster counter in the first frame at a dot of a line. -/
def atDot (phase : Phase) (dot line : Nat) (len : Option Nat) : State :=
  { State.reset with raster := { State.reset.raster with phase := phase, dot := dot, line := line, frameLen := len } }

/-- An instant at which DOTCLK rises: the accumulator has just passed 2^23 (R63). -/
def rising (s : State) : State := { s with synth := { s.synth with acc := 8388608 } }

/-- A seek computation in flight on a sum. -/
def computing (pb16 : Nat) (starts : Nat) (now : Time) : State :=
  { State.reset with
    timebase := now
    loop := { State.reset.loop with
      state := .seek, pb16 := pb16
      seek := { prev := some 0, acc := pb16, count := 16, inFlight := true, lineStarts := starts, dots := 896 } } }

/-! ### The seek and the update (03, tables of R54, R59, R60 and section 3.4) -/

theorem test_seek_625 : ({ Seek.clear with dots := 896 } : Seek).result 55296 = 4349649 := by decide
theorem test_seek_525 : ({ Seek.clear with dots := 910 } : Seek).result 54912 = 4448504 := by decide
theorem test_seek_search : ({ Seek.clear with dots := 896 } : Seek).result 51360 = 4682986 := by decide

/-- R60, "small correction", with Gi 12 and Gp 320. -/
theorem test_update_small :
    let s : State := { tracking .pull with
      setup := { State.reset.setup with loop := (State.reset.setup.loop.set 15 12).set 14 320 } }
    ((s.update 40).loop.freq, (s.update 40).loop.inc) = (4350129, 4362929) := by decide

/-- R60, "at the limit", with Gi 6 and Gp 4095. -/
theorem test_update_limit :
    let s : State := { tracking .locked with
      setup := { State.reset.setup with loop := State.reset.setup.loop.set 16 4095 } }
    ((s.update (-1023)).loop.freq, (s.update (-1023)).loop.inc) = (4343511, 4077796) := by decide

/-- Section 3.4, pull-in: the error of the edge 1,062,208 wraps from -2,952 to +504. -/
theorem test_error_wraps :
    ({ tracking .pull with raster := { State.reset.raster with lastStart := 1059256 } } : State).phaseError 1062208 = 504 := by
  decide

/-- Section 3.4, pull-in: the sixteenth good interval begins the computation with Pb16 55,296. -/
theorem test_seek_begins :
    let s : State := withRecord .line 1055296 { State.reset with loop := { State.reset.loop with
      state := .seek, seek := { Seek.clear with prev := some 1051840, acc := 51840, count := 15 } } }
    ((after (exec .recordTaken s)).loop.pb16, (after (exec .recordTaken s)).loop.seek.inFlight) = (55296, true) := by
  decide

/-- Section 3.4: at the completion the line b + 1, predicted at 1,058,752, closes at once. -/
theorem test_seek_completes :
    let s : State := { State.reset with
      timebase := 1059256
      loop := { State.reset.loop with
        state := .seek
        seek := { prev := some 1055296, acc := 55296, count := 16, inFlight := true, lineStarts := 2, dots := 896 } } }
    let t := after (exec .seekComplete s)
    (t.loop.state, t.loop.freq, t.loop.lines.map OpenLine.pred, t.front.lineTime) =
      (.pull, 4349649, [1058752, 1062208], some 1058752) := by decide

/-! ### One locked line (02, worked example) -/

theorem test_locked_line_closes :
    (after (exec (.lineClose 200024) (tracking .locked))).front.lineTime = some 200000 ∧
    (after (exec (.lineClose 200023) (tracking .locked))).front.lineTime = none := by decide

theorem test_locked_edge :
    let t := after (exec .recordTaken (withRecord .line 200010 (tracking .locked true)))
    (t.loop.pb16, t.loop.base, t.loop.lines.map OpenLine.pred, t.front.accum.accepted) =
      (55310, 200010, [200010, 203467], 1) := by decide

theorem test_locked_line_settles :
    let t := after (exec .recordTaken (withRecord .line 200010 (tracking .locked true)))
    (after (exec (.lineSettle 201738) t)).loop.lines.length = 2 ∧
    (after (exec (.lineSettle 201739) t)).loop.lines.length = 1 := by decide

/-- R29, R34: a line with none but an outside record is MISSED, and in PULL sets the lock count to 0 (log 39). -/
theorem test_outside_missed :
    let s := withRecord .line 200401 (tracking .pull true)
    let t := after (exec (.lineSettle 201728) (after (exec .recordTaken
      { s with loop := { s.loop with lockCount := 7 } })))
    (t.loop.lockCount, t.front.accum.missed) = (0, 1) := by decide

/-- 2.4: M_coast misses in a row lead to COAST. -/
theorem test_missed_to_coast :
    let s : State := tracking .locked true
    let u : State := { s with loop := { s.loop with missedRun := 2 } }
    (after (exec (.lineSettle 201728) u)).loop.state = .coast ∧
    (after (exec (.lineSettle 201728) s)).loop.state = .locked := by decide

/-! ### The sync front end (01) -/

/-- R1: with F_fall 8 a low of 7 ticks is no fall. -/
theorem test_fall_filter :
    let s := after (exec (.csyncLevelChange 100 .low) State.reset)
    (after (exec (.acceptedFall 107) s)).front.pulse = none ∧
    (after (exec (.acceptedFall 108) s)).front.pulse = some 100 := by decide

/-- R2: a new F_fall, here 8 in place of 63, judges a run in progress from the next tick on. -/
theorem test_width_next_tick :
    let s : State := { State.reset with setup := { State.reset.setup with loop := State.reset.setup.loop.set 8 63 } }
    let t : State := { after (exec (.csyncLevelChange 100 .low) s) with timebase := 150 }
    let u := after (exec (.structuralSetupWrite 0x008 8 ⟨true, true⟩) t)
    (after (exec (.acceptedFall 150) u)).front.pulse = none ∧
    (after (exec (.acceptedFall 151) u)).front.pulse = some 100 := by decide

/-- R10, R28: 700,000 lines of 3,456 ticks after the base, more than half a timebase, a phase is still taken from the
nearest prediction of the moment. -/
theorem test_far_from_base :
    ({ State.reset with loop := { State.reset.loop with
      valid := true, base := 0, baseLine := 1, lines := [openLine 700001 2419200000] } } : State).phaseOf 2419200005 = 5 := by
  decide

/-- R5: the two width limits. -/
theorem test_classes :
    [189, 190, 809, 810].map (fun w => State.reset.classify w) = [.narrow, .line, .line, .broad] := by decide

/-- 01, worked field-1 interval: the first broad pulse begins line 1 of field 1. -/
theorem test_field_one :
    let s : State := { tracking .locked with
      front := { State.reset.front with runCount := 306, lineValid := true, line := 1, lineTime := some 113824 }
      loop := { (tracking .locked).loop with base := 110368 } }
    let t := s.completePulse { lead := 113824, width := 1474, cls := .broad }
    (t.front.parity, t.front.line, t.front.runCount, t.att.causes) = (.field1, 1, 0, 0) := by decide

/-- R4: a pulse of 65,535 ticks saturates, and the rise after it completes no record. -/
theorem test_saturation :
    let s : State := { State.reset with front := { State.reset.front with
      filter := { accepted := .low, run := none }, pulse := some 0 } }
    let t := after (exec (.pulseSaturation 65535) s)
    let u := after (exec (.acceptedRise 70008) (after (exec (.csyncLevelChange 70000 .high) t)))
    (t.front.queue.map Pulse.width, t.front.waitRise, u.front.queue.length, u.front.waitRise) =
      ([65535], true, 1, false) := by decide

/-! ### Frame alignment (05, examples of Δ and the worked profile) -/

theorem test_delta :
    [0, 622, 620, 300, 313, 312].map (fun n => (atDot .captured 0 n (some 625)).misalignment) =
      [0, 3, 5, -300, 312, -312] := by decide

/-- R82: a RELEASE taken first at the instant of a field start of parity 1 clears the misalignment count, and one of another
instant leaves it. -/
theorem test_release_before_check :
    let s : State := { withCommand 0x02 0 0 (tracking .locked) with timebase := 203500 }
    let u : State := { s with
      front := { s.front with runCount := 306 }, align := { s.align with count := 1 } }
    let t := after (exec (.release 0 0) u)
    let p : Pulse := { lead := 200000, width := 1474, cls := .broad }
    (t.loop.valid, t.align.count, (t.completePulse p).align.count,
      (State.completePulse p { t with timebase := 203501 }).align.count) = (false, 1, 0, 1) := by decide

theorem test_slew_lines :
    let s := (slewing 0 12288).slewLine
    let u := (slewing 12 528).slewLine
    (s.align.level, s.align.distance, s.loop.inc) = (1, 12280, 4358144) ∧
    (u.align.level, u.align.distance, u.loop.inc) = (11, 440, 4443098) := by decide

theorem test_slew_ends :
    let s := (slewing 1 0).slewLine
    (s.loop.state, s.loop.inc, s.att.causes) = (.pull, 4349649, 0x0040) := by decide

/-! ### The raster counter (04) -/

/-- R69: dots near a line start of 896 dots. -/
theorem test_offsets : [0, 8, 448, 449, 894].map (fun d => dotOffset d 896) = [0, 8, 448, -447, -2] := by decide

/-- R66, R67: the wrap of the last dot of the last line. -/
theorem test_line_start :
    let t := after (exec (.synthesiserCarry 50) (atDot .captured 895 624 (some 625)))
    (t.raster.dot, t.raster.line, t.raster.lastStart) = (0, 0, 50) := by decide

/-- R74, R76: an LHS three dots late in CAPTURED is a raster fault, and is taken in HUNT. -/
theorem test_raster_fault :
    let t := after (exec .lhsSeen (rising (atDot .captured 3 10 (some 625))))
    (t.raster.phase, t.raster.dot, t.raster.frameLen, t.att.causes) = (.align, 0, none, 0x2000) := by decide

/-- R73: the first frame is measured; a length other than N holds FRAME MISMATCH. -/
theorem test_measure :
    (after (exec .localFieldStart (rising (atDot .captured 0 625 none)))).raster.frameLen = some 625 ∧
    (after (exec .localFieldStart (rising (atDot .captured 0 624 none)))).att.causes = 0x4000 := by decide

/-- R69: an LHS is sampled where DOTCLK rises, and once in its dot. -/
theorem test_sampled_once :
    let s := atDot .captured 3 10 (some 625)
    let t := after (exec .lhsSeen (rising s))
    (after (exec .lhsSeen s)).raster.phase = .captured ∧ (after (exec .lhsSeen t)).raster = t.raster := by decide

/-- R75: an LVS that would fail its check in the dot of an LHS that has failed is met in HUNT. -/
theorem test_second_failure :
    let t := after (exec .lhsSeen (rising (atDot .captured 3 10 (some 625))))
    let u := after (exec .localFieldStart t)
    (u.raster.phase, u.raster.secondField, u.att.causes) = (.align, false, 0x2000) := by decide

/-! ### Keying (07, worked line of keyed fetches, worked fade) -/

/-- The live set 1 and the key setup of the worked line, with fetch 3 next. -/
def keying : State :=
  let w (m : WindowMode) (top bottom left right : Nat) (source : LevelSource) (level : Nat) : Window :=
    { enabled := true, mode := m, keyIndex := 0, top := top, bottom := bottom, left := left, right := right
      source := source, level := level }
  let windows : Vector Window 6 :=
    #v[w .opaqueMode 490 520 0 5 .fixed 255, w .matte 0 1023 8 11 .fixed 0, w .indexKey 480 540 4 703 (.ramp 0) 0,
       Window.reset, Window.reset, Window.reset]
  { atDot .captured 52 500 (some 625) with
    title := { State.reset.title with
      active := some 1, sets := State.reset.title.sets.set 1 { WindowSet.reset with windows := windows } }
    keyer := { State.reset.keyer with
      fetchCount := 3, origin := 8, colZero := 130, keyLine := 500
      ramps := State.reset.keyer.ramps.set 0 { Ramp.reset with level := 200, target := 200, unstarted := false } } }

theorem test_fetch :
    (after (exec (.displayFetch 0 ⟨0x1007, ⟨true, true⟩, false⟩) keying)).keyer.delay =
      [{ first := 4, cells := #v[some ⟨true, 15⟩, some ⟨true, 15⟩, some ⟨false, 0⟩, some ⟨true, 12⟩] }] := by
  decide

/-- R159: a display fetch of write direction passes as it is, and the shared bus receives nothing. -/
theorem test_fetch_write :
    let t := after (exec (.displayFetch 0x4000 ⟨0x1007, ⟨true, false⟩, true⟩) keying)
    (t.bus.toDram, t.bus.readData, t.keyer.fetchCount) =
      (some (.fetchWrite 0x4000 0x1007 ⟨true, false⟩), keying.bus.readData, 4) := by decide

theorem test_presentation :
    let s := after (exec (.displayFetch 0 ⟨0x1007, ⟨true, true⟩, false⟩) keying)
    let t : State := { s with raster := { s.raster with dot := 136 } }
    ((after (exec (.synthesiserCarry 0) t)).pins.key, (after (exec (.synthesiserCarry 0) t)).pins.mix) = (true, 12) := by
  decide

/-- The worked fade: a rate of 0 takes the default rate 16, and field start 1 leaves level 184. -/
theorem test_fade :
    let s : State := withCommand 0x20 0 0 { rising keying with title := { keying.title with
      ramps := State.reset.title.ramps.set 0 { rate := 16, level := 0 } } }
    let t := after (exec .localFieldStart (after (exec (.fade 0 0) s)))
    (t.keyer.ramps[0].level, t.keyer.ramps[0].moving) = (184, true) := by decide

/-! ### Titles, cues, commands, bus and attention -/

/-- R102, R103: the dwell of a FIELDS set with no next set runs out. -/
theorem test_chain_end :
    let s : State := withActive 0 { rising State.reset with title := { State.reset.title with
      sets := State.reset.title.sets.set 0 { WindowSet.reset with mode := .fields } } }
    let t := after (exec .dwellExpired (after (exec .localFieldStart s)))
    (t.title.active, t.title.remaining, t.att.causes) = (none, 0, 0x0080) := by decide

/-- R151: a RING counter takes the modulus less one for a value at or above it. -/
theorem test_count_set :
    let s : State := { State.reset with setup := { State.reset.setup with aux := State.reset.setup.aux.set 10 1 } }
    (after (exec (.countSet 0 50000) s)).cue.counter = 49999 ∧
    (after (exec (.countSet 0 49999) s)).cue.counter = 49999 := by decide

/-- R154: a CUE pulse is timed with the start of its run. -/
theorem test_cue_latch :
    let s : State := { State.reset with setup := { State.reset.setup with aux := State.reset.setup.aux.set 9 4 } }
    let t := after (exec (.cuePulse 116) (after (exec (.cueLevelChange 100 .high) s)))
    (t.cue.latch.time, t.cue.latch.seqCount) = (100, 1) := by decide

/-- R22, R168: ENGAGE in OFF is ACCEPTED, and in SEEK refused. -/
theorem test_engage :
    let t := after (exec (.engage 0 0) State.reset)
    let u := after (exec (.engage 0 0) t)
    (t.loop.state, t.bus.lastVerdict, u.bus.lastVerdict, u.att.causes) =
      (.seek, some .accepted, some .refusedState, 0x0400) := by decide

/-- R164: a write of both lanes to CMD enqueues its high byte as the code. -/
theorem test_command_write :
    (after (exec (.capturedWrite 0x7C1 0x2003 ⟨true, true⟩) State.reset)).bus.queue = [⟨0x20, 0x03, 0⟩] := by
  decide

/-- Section 9, "commands written during a seek computation": the FADE is delivered before the next write, the RELEASE
waits, and a read of 0x7E0 shows the FADE's result. -/
theorem test_delivered_at_once :
    let w (d : Word) (s : State) : State := after (exec (.capturedWrite 0x7C1 d ⟨true, true⟩) s)
    let s := computing 55296 0 0
    let t := w 0x0200 (w 0x2000 { s with bus := { s.bus with arg := 0x10FF } })
    let u := after (exec (.reportSummaryRead 0x7E0 ⟨0, ⟨true, true⟩⟩) t)
    (t.keyer.ramps[0].moving, t.bus.queue, u.bus.lastCode, u.bus.lastVerdict) =
      (true, [⟨0x02, 0, 0x10FF⟩], 0x20, some .accepted) := by decide

/-- The same, where the computation has completed: the RELEASE is judged in PULL, and what waited behind it follows. -/
theorem test_queue_follows :
    let s := computing 55296 2 0
    let t := after (exec .seekComplete { s with bus := { s.bus with queue := [⟨0x02, 0, 0⟩, ⟨0x21, 1, 0x0040⟩] } })
    let u := after (exec (.capturedWrite 0x7C0 0 ⟨true, true⟩) t)
    (u.loop.state, u.keyer.ramps[1].level, u.bus.lastCode, u.bus.queue) = (.off, 64, 0x21, []) := by decide

/-- R92: a RELEASE still in the queue as BRESET# is asserted is lost, and the slew goes on. -/
theorem test_release_lost :
    let s := withCommand 0x02 0 0 (slewing 1 8)
    let t := after (exec .busReset s)
    (t.loop.state, t.align, t.bus.queue, t.bus.lastVerdict) = (.slew, s.align, [], none) := by decide

/-- R48: a structural write outside OFF is late. -/
theorem test_setup_late :
    let t := after (exec (.structuralSetupWrite 0x001 500 ⟨true, true⟩) (tracking .pull))
    (t.setupDots, t.att.causes) = (896, 0x1000) := by decide

/-- R177: after reset the live summary shows OFF and no active set. -/
theorem test_summary : (after (exec (.reportSummaryRead 0x7E0 ⟨0, ⟨true, true⟩⟩) State.reset)).bus.readData = 0x0040 := by decide

/-- R174: ACK of FRAME MISMATCH while its condition holds leaves it pending. -/
theorem test_ack :
    let s : State := { State.reset with att := { causes := 0x6000, enable := 0x4000, mismatch := true } }
    let t := after (exec (.ack 0 0xFFFF) s)
    (t.att.causes, t.pins.attnLow) = (0x4000, true) := by decide

/-- R150: the mode RING brings a counter at or above the modulus to the modulus less one. -/
theorem test_counter_mode :
    let s : State := { State.reset with cue := { State.reset.cue with counter := 60000 } }
    (after (exec (.fieldCounterModeWrite 0x02A 1 ⟨true, true⟩) s)).cue.counter = 49999 := by decide

/-- R175: the enable mask is in force at once. -/
theorem test_enable :
    let s : State := { State.reset with att := { causes := 0x0001, enable := 0, mismatch := false } }
    (after (exec (.enableMaskWrite 0x048 1 ⟨true, true⟩) s)).pins.attnLow = true := by decide

/-- 04, "Strap defaults", and 2.8: power reset with DCLK 3 and 525 lines. -/
theorem test_power_reset :
    let t := after (exec (.powerReset 2 3 .lines525) State.reset)
    (t.loop.freq, t.setupDots, t.iMin, t.iMax, t.loop.pb16, t.bus.base) =
      (4971027, 1024, 4660338, 5281716, 54912, 32768) := by decide

/-! ### The hypotheses of the statements can be met

Each theorem shows, clause by clause, a state and operands that meet the hypotheses of the statement of its name, at the
ends of the ranges; a hypothesis that only names a value (`x = …`) is met by that value. -/

theorem witness_EmptyQueueTicks :
    let held : State := { State.reset with resetHeld := true }
    let due : State := { State.reset with loop := { State.reset.loop with holdoverOwed := true } }
    (held.pending = [] ∧ held.resetHeld = true) ∧
    (due.pending = [] ∧ due.resetHeld = false ∧ due.due ≠ []) ∧
    (State.reset.pending = [] ∧ State.reset.resetHeld = false ∧ State.reset.due = []) := by decide

theorem witness_ResetHeldStopsTheBlock :
    ({ State.reset with resetHeld := true } : State).resetHeld = true ∧
    (∀ b d st, Instr.recordTaken ≠ .powerReset b d st) ∧ Instr.recordTaken ≠ .powerResetEnd :=
  ⟨rfl, fun _ _ _ => by simp, by simp⟩

theorem witness_PowerResetEnds :
    ({ State.reset with resetHeld := true } : State).resetHeld = true ∧ State.reset.resetHeld = false := ⟨rfl, rfl⟩

theorem witness_BusResetKeepsTheLock : (withCommand 0x02 0 0 (slewing 1 8)).Unowed := by decide

theorem witness_LevelChanges : State.reset.Ready := by decide

/-- A filter with a run in progress from tick 0. -/
def running (l : Level) (pulse : Option Time) : State :=
  { State.reset with front := { State.reset.front with filter := { accepted := l, run := some 0 }, pulse := pulse } }

/-- A width kept for one tick. -/
def keeping (tick : Time) (width : Nat) (s : State) : State :=
  { s with front := { s.front with filter := { s.front.filter with hold := some (tick, width) } } }

theorem witness_kept_widths :
    let s (l : Level) (p : Option Time) (t : Time) (w : Nat) : State := keeping t w (running l p)
    let at' (t : Time) (f : Filter) (w : Nat) : Nat := match f.hold with
      | some (k, old) => if k = t then old else w
      | none => w
    ((s .high none 8 8).Ready ∧ at' 8 (s .high none 8 8).front.filter 63 = 8) ∧
    (at' 8 (s .high none 8 9).front.filter 8 = 9 ∧ (8 - (0 : Time)).toInt < 9) ∧
    ((s .low (some 0) 7 9).Ready ∧ at' 8 (s .low (some 0) 7 9).front.filter 8 = 8) := by decide

theorem witness_AcceptedFall :
    let s := running .high none
    (s.Ready ∧ s.front.filter.accepted = .high ∧ s.front.filter.run = some 0 ∧ (s.fFall : Int) ≤ (8 - (0 : Time)).toInt) ∧
    ((running .low none).Ready ∧ (running .low none).front.filter.accepted = .low) ∧
    (State.reset.Ready ∧ State.reset.front.filter.run = none) ∧
    (7 - (0 : Time)).toInt < s.fFall := by decide

theorem witness_AcceptedRise :
    let s := running .low (some 0)
    (s.Ready ∧ s.front.filter.accepted = .low ∧ s.front.filter.run = some 0 ∧ (s.fRise : Int) ≤ (8 - (0 : Time)).toInt) ∧
    s.front.pulse = some 0 ∧ (running .low none).front.pulse = none ∧ (7 - (0 : Time)).toInt < s.fRise ∧
    (State.reset.front.filter.accepted = .high ∧ State.reset.front.filter.run = none) := by decide

theorem witness_PulseSaturation :
    let s := running .low (some 0)
    s.Ready ∧ s.front.pulse = some 0 ∧ 65535 ≤ (65535 - (0 : Time)).toInt ∧ (65534 - (0 : Time)).toInt < 65535 ∧
    State.reset.front.pulse = none := by decide

/-- A run count with a prediction that is valid or not. -/
def counted (n : Nat) (valid : Bool) : State :=
  { State.reset with
    front := { State.reset.front with runCount := n }, loop := { State.reset.loop with valid := valid } }

theorem witness_CompletedRecord :
    let p : Pulse := { lead := 864, width := 1474, cls := .broad }
    ((counted 5 true).front.runCount < 6) ∧ (PulseClass.line = .broad → 65535 < 6) ∧
    (p.cls = .broad ∧ 6 ≤ (counted 6 false).front.runCount ∧ (counted 6 false).loop.valid = false) ∧
    (p.cls = .broad ∧ 6 ≤ (counted 6 true).front.runCount ∧ (counted 6 true).loop.valid = true ∧
      (864 : Int) = (counted 6 true).phaseOf p.lead ∧
      1 = (if 4 * (864 : Int).natAbs ≤ (counted 6 true).pb then 1 else ((counted 6 true).frameLines + 1) / 2)) ∧
    (let s : State := { counted 6 false with align := { State.reset.align with count := 1, released := some 0 } }
     s.loop.valid = false ∧ s.align.released = some s.timebase ∧
       4 * (s.phaseOf 864).natAbs ≤ s.pb ∧ s.pb < 4 * (s.phaseOf 865).natAbs) ∧
    ((865 : Int) = (counted 6 true).phaseOf 865 ∧
      313 = (if 4 * (865 : Int).natAbs ≤ (counted 6 true).pb then 1 else ((counted 6 true).frameLines + 1) / 2)) := by
  decide

theorem witness_FrameCheck :
    let s := atDot .captured 0 313 (some 625)
    (312 : Int) = ((s.vOff : Int) - s.raster.line + (s.frameLines / 2 : Nat)) % s.frameLines - (s.frameLines / 2 : Nat) := by
  decide

theorem witness_SlewLine :
    State.reset.loop.state ≠ .slew ∧
    (let s := slewing 1 8
     s.loop.state = .slew ∧ s.SlewCanStop ∧ 1 = s.align.level ∧ 1 ≤ s.align.top ∧
      s.align.stepA * 1 * (1 + 1) / 2 ≤ s.align.distance ∧
      s.align.distance < s.align.stepA * (s.align.level + 1) * (s.align.level + 2) / 2) ∧
    (let s := slewing 11 12280
     s.loop.state = .slew ∧ s.SlewCanStop ∧ 12 = s.align.level + 1 ∧ 12 ≤ s.align.top ∧
      s.align.stepA * 12 * (12 + 1) / 2 ≤ s.align.distance) ∧
    (let s := slewing 1 0
     s.loop.state = .slew ∧ s.SlewCanStop ∧ 0 + 1 = s.align.level ∧ 0 ≤ s.align.top ∧
      s.align.stepA * 0 * (0 + 1) / 2 ≤ s.align.distance ∧
      s.align.distance < s.align.stepA * (s.align.level + 1) * (s.align.level + 2) / 2 ∧
      s.align.distance < s.align.stepA * s.align.level * (s.align.level + 1) / 2) := by decide

theorem witness_NearestPrediction :
    let s : State := { State.reset with loop := { State.reset.loop with pb16 := 16 } }
    let next (l : Loop) : Nat := match l.lines.getLast? with
      | some o => o.line - l.baseLine
      | none => 0
    16 ≤ s.loop.pb16 ∧ next s.loop = 0 ∧
    (0 : Int) = roundDiv (0 * s.loop.pb16) 16 + ((0 : Time) - later s.loop.base (roundDiv (0 * s.loop.pb16) 16)).toInt ∧
    next (tracking .pull).loop = 1 ∧
    (0 : Int) = roundDiv (1 * 55296) 16 + ((196540 : Time) - later 196540 (roundDiv (1 * 55296) 16)).toInt ∧ 0 < 1 ∧
    (tracking .pull true).loop.lines = openLine 2 200000 true :: [openLine 3 203456] ∧
    (tracking .pull true).loop.lineFor 201728 = some (openLine 3 203456) ∧
    (tracking .pull true).loop.lineFor 201727 = some (openLine 2 200000 true) := by decide

theorem witness_RecordWithoutEdge :
    let rec1 (cls : PulseClass) (t : Time) (st : LoopState) : State := withRecord cls t (tracking st)
    let flying : State := { rec1 .line 0 .seek with loop := { State.reset.loop with
      state := .seek, seek := { Seek.clear with inFlight := true } } }
    let taken : State := withRecord .line 200000 { tracking .locked with loop := { (tracking .locked).loop with
      lines := [{ openLine 2 200000 with edge := true }] } }
    (State.reset.Ready ∧ State.reset.front.queue = []) ∧ (flying.Ready ∧ flying.loop.seek.inFlight = true) ∧
    ((rec1 .line 200000 .off).Ready ∧ (rec1 .line 200000 .off).loop.seek.inFlight = false) ∧
    ((rec1 .line 198200 .pull).Ready ∧ (rec1 .line 198200 .pull).loop.lineFor 198200 = none) ∧
    ((rec1 .narrow 200000 .pull).Ready ∧
      (rec1 .narrow 200000 .pull).loop.lineFor 200000 = some (openLine 2 200000) ∧ PulseClass.narrow ≠ .line) ∧
    (taken.Ready ∧ taken.loop.lineFor 200000 = some { openLine 2 200000 with edge := true }) ∧
    ((rec1 .line 200401 .pull).loop.lineFor 200401 = some (openLine 2 200000) ∧
      (rec1 .line 200401 .pull).gW < ((200401 : Time) - 200000).toInt.natAbs) ∧
    ((rec1 .line 200025 .frozen).loop.lineFor 200025 = some (openLine 2 200000) ∧
      (rec1 .line 200025 .frozen).gN < ((200025 : Time) - 200000).toInt.natAbs) := by decide

/-- A seek with a previous LINE time of 0 and some good intervals, and a record at its head. -/
def seeking (prev : Option Time) (count : Nat) (cls : PulseClass) (t : Time) : State :=
  withRecord cls t { State.reset with loop := { State.reset.loop with
    state := .seek, seek := { Seek.clear with prev := prev, count := count, acc := 3456 * count } } }

theorem witness_SeekRecords :
    let s := seeking (some 0) 14 .line 3200
    (s.Ready ∧ s.loop.state = .seek ∧ s.loop.seek.inFlight = false ∧
      s.front.queue = [{ lead := 3200, width := 254, cls := .line }]) ∧
    ((seeking none 0 .narrow 5).Ready ∧ PulseClass.narrow ≠ .line) ∧ (seeking none 0 .line 5).loop.seek.prev = none ∧
    s.loop.seek.prev = some 0 ∧ ¬ ((s.pLo : Int) ≤ (3199 : Time).toInt ∧ (3199 : Time).toInt ≤ s.pHi) ∧
    ((s.pLo : Int) ≤ (3200 : Time).toInt ∧ (3700 : Time).toInt ≤ s.pHi ∧ s.loop.seek.count + 1 < 16) ∧
    (seeking (some 0) 15 .line 3700).loop.seek.count = 15 := by decide

theorem witness_HeldEdge :
    let s := withRecord .line 200024 (tracking .frozen)
    s.Ready ∧ s.loop.state = .frozen ∧ s.loop.seek.inFlight = false ∧
    s.loop.lineFor 200024 = some (openLine 2 200000) ∧ (openLine 2 200000).edge = false ∧
    ((200024 : Time) - 200000).toInt.natAbs ≤ s.gN ∧ (tracking .slew).loop.state = .slew := by decide

theorem witness_PullUpdate :
    let s := withRecord .line 200400 (tracking .pull)
    s.Ready ∧ s.loop.state = .pull ∧ s.loop.seek.inFlight = false ∧
    s.loop.lineFor 200400 = some (openLine 2 200000) ∧ (openLine 2 200000).edge = false ∧
    ((200400 : Time) - 200000).toInt.natAbs ≤ s.gW ∧ s.loop.lockCount + 1 < s.nLock ∧
    s.nLock ≤ ({ s with loop := { s.loop with lockCount := 31 } } : State).loop.lockCount + 1 := by decide

theorem witness_LockedUpdate :
    let s := withRecord .line 199976 (tracking .locked)
    s.Ready ∧ s.loop.state = .locked ∧ s.loop.seek.inFlight = false ∧
    s.loop.lineFor 199976 = some (openLine 2 200000) ∧ (openLine 2 200000).edge = false ∧
    ((199976 : Time) - 200000).toInt.natAbs ≤ s.gN := by decide

theorem witness_CoastReturn :
    let s := withRecord .line 200400 (tracking .coast)
    let third : State := { s with loop := { s.loop with returnCount := 3 } }
    let last : State := { third with loop := { third.loop with holdCount := 1249 } }
    let taken (x : State) : State :=
      ({ x with front := { x.front with queue := [] } } : State).edgeTaken 200400 (openLine 2 200000)
    (s.Ready ∧ s.loop.state = .coast ∧ s.loop.lineFor 200400 = some (openLine 2 200000) ∧
      ((200400 : Time) - 200000).toInt.natAbs ≤ s.gW ∧ s.loop.returnCount + 1 < s.rReturn) ∧
    (third.Ready ∧ s.rReturn ≤ third.loop.returnCount + 1 ∧ (taken third).loop.holdoverOwed = false) ∧
    (last.Ready ∧ (taken last).loop.holdoverOwed = true) := by decide

theorem witness_RephaseCandidate :
    let s := withRecord .line 200400 (tracking .locked)
    s.Ready ∧ s.loop.state = .locked ∧ s.loop.seek.inFlight = false ∧
    s.loop.lineFor 200400 = some (openLine 2 200000) ∧ (openLine 2 200000).edge = false ∧
    s.gN < ((200025 : Time) - 200000).toInt.natAbs ∧ ((200400 : Time) - 200000).toInt.natAbs ≤ s.gW ∧
    s.gN < ((200400 : Time) - 200000).toInt.natAbs ∧ s.loop.candidates = [] := by decide

theorem witness_SeekCompletes :
    (State.reset.Ready ∧ State.reset.loop.seek.inFlight = false) ∧ (computing 55296 1 0).loop.seek.lineStarts < 2 ∧
    ((computing 0 2 0).Unowed ∧ 2 ≤ (computing 0 2 0).loop.seek.lineStarts ∧ (computing 0 2 0).loop.pb16 = 0) ∧
    (4682986 = (2 * (896 * 2 ^ 28) + 51360) / (2 * 51360) ∧
      ¬ ((computing 51360 2 0).iMin ≤ 4682986 ∧ 4682986 ≤ (computing 51360 2 0).iMax)) ∧
    (4349649 = (2 * (896 * 2 ^ 28) + 55296) / (2 * 55296) ∧
      (computing 55296 2 0).iMin ≤ 4349649 ∧ 4349649 ≤ (computing 55296 2 0).iMax) ∧
    ({ computing 55296 2 0 with loop := { (computing 55296 2 0).loop with
      state := .pull, valid := true, lines := [openLine 1 3456] } } : State).closeDue = none ∧
    (1 ≤ (computing 1 2 0).loop.pb16 ∧ (computing 1048560 2 0).loop.pb16 ≤ 1048560) ∧
    (let u : State := { tracking .pull with timebase := 200400 }
     u.Ready ∧ u.closeDue = some 200000) := by decide

/-- With Pb16 at 0 the completion goes on too. -/
theorem test_seek_at_zero : ∃ t, exec .seekComplete (computing 0 2 0) = .next t := ⟨_, rfl⟩

theorem witness_LineCloses :
    let s := tracking .locked
    (s.Ready ∧ s.loop.lines.getLast? = some (openLine 2 200000)) ∧ State.reset.loop.valid = false ∧
    ((200023 : Time) - 200000).toInt < s.gN ∧ (s.loop.valid = true ∧ (s.gN : Int) ≤ ((200024 : Time) - 200000).toInt) ∧
    (((tracking .pull).gW : Int) ≤ ((200400 : Time) - 200000).toInt) := by decide

/-- Whether a time lies in the share of line 2 of `tracking`. -/
def inShare (t : Time) : Bool :=
  !decide ((t - 196540 : Time).toInt < (200000 - t : Time).toInt) &&
    decide ((t - 200000 : Time).toInt < (203456 - t : Time).toInt)

theorem witness_LineSettles :
    let s := tracking .locked true
    (s.Ready ∧ s.loop.lines = [openLine 2 200000 true, openLine 3 203456] ∧ s.loop.valid = true ∧
      s.loop.priorPred = 196540) ∧
    (201727 - 200000 : Time).toInt < (203456 - 201727 : Time).toInt ∧
    ¬ (201728 - 200000 : Time).toInt < (203456 - 201728 : Time).toInt ∧
    (s.front.pulse.toList ++ s.front.queue.map Pulse.lead = []) := by decide

theorem witness_LineSettles_shares :
    [198269, 198270, 201727, 201728].map inShare = [false, true, true, false] := by decide

theorem witness_LineSettles_outcomes :
    let o := openLine 2 200000 true
    (o.closed = true ∧ o.edge = false ∧ o.candidate = false ∧ o.excused = false) ∧
    (({ o with edge := true } : OpenLine).edge = true ∧ ({ o with edge := true } : OpenLine).candidate = false) ∧
    ({ o with candidate := true } : OpenLine).candidate = true ∧ ({ o with excused := true } : OpenLine).excused = true := by
  decide

theorem witness_OwedSteps :
    let hold : State := { tracking .coast with loop := { (tracking .coast).loop with holdoverOwed := true } }
    let dwell : State := { withActive 2 State.reset with title := { (withActive 2 State.reset).title with dwellOwed := true } }
    let chained : State := { dwell with title := { dwell.title with
      sets := dwell.title.sets.set 2 { WindowSet.reset with next := some 3 } } }
    (State.reset.resetHeld = false ∧ Instr.recordTaken ≠ .powerResetEnd) ∧
    (hold.title.dwellOwed = false ∧ hold.loop.holdoverOwed = true) ∧ State.reset.loop.holdoverOwed = false ∧
    (dwell.loop.holdoverOwed = false ∧ dwell.title.dwellOwed = true ∧ dwell.title.active = some 2 ∧
      dwell.title.sets[(2 : Fin 4)].next = none) ∧
    chained.title.sets[(2 : Fin 4)].next = some 3 ∧
    ({ dwell with title := { dwell.title with active := none } } : State).title.active = none := by decide

theorem witness_LoopCommands :
    State.reset.loop.seek.inFlight = false ∧
    (withCommand 0x01 0 0 State.reset).Heads ⟨0x01, 0, 0⟩ [] ∧ (withCommand 0x02 0 0 (slewing 1 8)).Heads ⟨0x02, 0, 0⟩ [] ∧
    (withCommand 0x02 0 0 (tracking .locked)).Heads ⟨0x02, 0, 0⟩ [] ∧
    (withCommand 0x03 0 0 (tracking .pull)).Heads ⟨0x03, 0, 0⟩ [] ∧
    (withCommand 0x04 0 0 (tracking .frozen)).Heads ⟨0x04, 0, 0⟩ [] := by decide

theorem witness_CommandsInTheirTurn :
    ((withCommand 0x04 0 0 (computing 55296 0 0)).Heads ⟨0x04, 0, 0⟩ [] ∧
      (withCommand 0x04 0 0 (computing 55296 0 0)).loop.seek.inFlight = true) ∧
    (State.reset.Unowed ∧ State.reset.bresetHeld = false ∧ State.reset.bus.queue = []) ∧
    ((withCommand 0x04 0 0 State.reset).Heads ⟨0x04, 0, 0⟩ [] ∧ State.reset.loop.seek.inFlight = false) ∧
    ((withCommand 0x08 0 0 (computing 55296 0 0)).Heads ⟨0x08, 0, 0⟩ [] ∧ (0x08 : Byte) ≠ 0x04 ∧ (0x08 : Byte) ≠ 0x01 ∧
      (⟨0x08, 0, 0⟩ : Command) ≠ ⟨0x08, 0, 1⟩) ∧
    ((Instr.lineClose 1).servesFirst 0 = true ∧ (Instr.displayFetch 0 ⟨0, ⟨true, true⟩, false⟩).servesFirst 0 = true) ∧
    ({ State.reset with bresetHeld := true } : State).bresetHeld = true := by decide

theorem witness_TitleCommands :
    (withCommand 0x08 0 0 State.reset).Heads ⟨0x08, 0, 0⟩ [] ∧
    ((withCommand 0x10 3 0 State.reset).Heads ⟨0x10, 3, 0⟩ [] ∧ (3 : Byte).toNat = (3 : Fin 4).val) ∧
    ((withCommand 0x10 4 0 State.reset).Heads ⟨0x10, 4, 0⟩ [] ∧ 4 ≤ (4 : Byte).toNat) ∧
    (withCommand 0x11 0 0 State.reset).Heads ⟨0x11, 0, 0⟩ [] ∧
    ((withCommand 0x12 0 0 State.reset).Heads ⟨0x12, 0, 0⟩ [] ∧ State.reset.title.active = none) ∧
    ((withCommand 0x12 0 0 (withActive 3 State.reset)).Heads ⟨0x12, 0, 0⟩ [] ∧
      (withActive 3 State.reset).title.active = some 3) := by decide

theorem witness_FadeAndCut :
    ((withCommand 0x20 3 0 State.reset).Heads ⟨0x20, 3, 0⟩ [] ∧ (3 : Byte).toNat = (3 : Fin 4).val) ∧
    ((withCommand 0x20 4 0 State.reset).Heads ⟨0x20, 4, 0⟩ [] ∧ 4 ≤ (4 : Byte).toNat) ∧
    ((withCommand 0x21 0 0 State.reset).Heads ⟨0x21, 0, 0⟩ [] ∧ (0 : Byte).toNat = (0 : Fin 4).val) ∧
    (withCommand 0x21 255 0 State.reset).Heads ⟨0x21, 255, 0⟩ [] := by decide

theorem witness_CountSet : (withCommand 0x30 0 65535 State.reset).Heads ⟨0x30, 0, 65535⟩ [] := by decide

theorem witness_AckAndUnknown :
    (withCommand 0x40 0 0xFFFF State.reset).Heads ⟨0x40, 0, 0xFFFF⟩ [] ∧
    ((0x05 : Byte) ∉ [0x01, 0x02, 0x03, 0x04, 0x08, 0x10, 0x11, 0x12, 0x20, 0x21, 0x30, (0x40 : Byte)] ∧
      (withCommand 0x05 0 0 State.reset).Heads ⟨0x05, 0, 0⟩ []) ∧
    ((0x40 : Byte) ∈ [0x01, 0x02, 0x03, 0x04, 0x08, 0x10, 0x11, 0x12, 0x20, 0x21, 0x30, (0x40 : Byte)] ∧
      State.reset.Ready) := by decide

/-- The cue area at its second block. -/
def based : State := { State.reset with bus := { State.reset.bus with base := 0x4000 } }

theorem witness_WritesOutsideTheCapturedWords :
    based.Ready ∧ (0x3FFF : Addr).toNat < based.bus.base.toNat ∧ based.bus.base.toNat + 0x7C1 < (0x47C2 : Addr).toNat ∧
    (based.bus.base.toNat + 0x048 < (0x4049 : Addr).toNat ∧ (0x40FF : Addr).toNat < based.bus.base.toNat + 0x100) ∧
    (based.bus.base.toNat + 0x2A3 < (0x42A4 : Addr).toNat ∧ (0x47BF : Addr).toNat < based.bus.base.toNat + 0x7C0) ∧
    ({ State.reset with bresetHeld := true } : State).bresetHeld = true := by decide

theorem witness_CapturedWrites :
    (based.Ready ∧ based.bresetHeld = false) ∧
    ∀ o ∈ [0x00C, 0x01F, 0x020, 0x027, 0x028, 0x029, 0x02C, 0x03F, 0x040, 0x047, 0x100, 0x1FF, 0x200, 0x2A3, 0x7C0],
      (BitVec.ofNat 18 (0x4000 + o) : Addr).toNat = based.bus.base.toNat + o := by decide

theorem witness_CommandWrite :
    based.Ready ∧ based.bresetHeld = false ∧ (0x47C1 : Addr).toNat = based.bus.base.toNat + 0x7C1 := by decide

theorem witness_StructuralWrite :
    (based.Ready ∧ based.bresetHeld = false ∧ based.loop.state = .off ∧ (tracking .seek).loop.state ≠ .off) ∧
    ∀ o ∈ [0, 1, 2, 5, 6, 7, 8, 9, 10, 11], (BitVec.ofNat 18 (0x4000 + o) : Addr).toNat = based.bus.base.toNat + o ∧ o ≤ 0x00B := by
  decide

theorem witness_CounterModeWrite :
    (based.Ready ∧ based.bresetHeld = false) ∧
    ∀ o ∈ [0x02A, 0x02B], (BitVec.ofNat 18 (0x4000 + o) : Addr).toNat = based.bus.base.toNat + o := by decide

theorem witness_EnableMaskWrite :
    based.Ready ∧ based.bresetHeld = false ∧ (0x4048 : Addr).toNat = based.bus.base.toNat + 0x048 ∧
    (0x12CD : Word) = BitVec.ofNat 16 ((if true then (0x1234 : Word).toNat / 256 else 0) * 256 +
      (if false then (0x1234 : Word).toNat % 256 else (0xABCD : Word).toNat % 256)) := by decide

theorem witness_ReportReads :
    based.Ready ∧ based.bresetHeld = false ∧ (0x47DF : Addr).toNat < based.bus.base.toNat + 0x7E0 ∧
    based.bus.base.toNat + 0x7FF < (0x4800 : Addr).toNat ∧ (0x47E0 : Addr).toNat = based.bus.base.toNat + 0x7E0 ∧
    (0x47E1 : Addr).toNat = based.bus.base.toNat + 0x7E1 ∧ (0x47FF : Addr).toNat = based.bus.base.toNat + 0x7FF ∧
    ({ State.reset with bresetHeld := true } : State).bresetHeld = true := by decide

theorem witness_SnapshotLayout :
    let s := keying
    s.front.line ≤ 625 ∧ s.loop.freq ≤ 8388607 ∧ s.loop.inc ≤ 8388607 ∧ s.loop.pb16 ≤ 1048560 ∧
    s.raster.frameLen.getD 0 ≤ 2048 ∧ s.align.distance ≤ 1277952 ∧ s.align.level ≤ 256 ∧ s.raster.line ≤ 2047 ∧
    s.cue.counter ≤ 65535 ∧ s.title.remaining ≤ 65535 ∧ s.cue.lastCue = none ∧
    (∀ i : Fin 4, s.keyer.ramps[i].level ≤ 255) ∧ s.front.last.accepted ≤ 65535 ∧ s.front.last.missed ≤ 65535 ∧
    s.front.last.excused ≤ 65535 ∧ s.front.last.candidates ≤ 65535 ∧ s.front.last.maxError ≤ 1023 ∧
    s.front.last.shortest ≤ 65535 ∧ s.front.last.longest ≤ 65535 ∧ s.front.last.lines ≤ 65535 ∧
    s.cue.latch.line ≤ 625 ∧ s.cue.latch.localLine ≤ 2047 ∧ s.cue.latch.seqCount ≤ 255 ∧
    s.cue.latch.origin = .pulse := by decide

theorem witness_DisplayFetch :
    let at_ (n : Nat) : State := { keying with keyer := { keying.keyer with fetchCount := n } }
    (at_ 1023).Ready ∧ 1023 ≤ (at_ 1023).keyer.fetchCount ∧ (at_ 1022).Ready ∧
      (at_ 1022).keyer.fetchCount < 1023 := by decide

theorem witness_PixelDecision :
    let has (w : Window) (col : Nat) : Prop :=
      w.enabled = true ∧ w.top ≤ 500 ∧ 500 ≤ w.bottom ∧ w.left ≤ col ∧ col ≤ w.right
    State.reset.title.active = none ∧ (keying.title.active = some 1 ∧ keying.keyer.keyLine = 500) ∧
    (∀ j : Fin 6, ¬ has keying.title.sets[(1 : Fin 4)].windows[j] 704) ∧
    (has keying.title.sets[(1 : Fin 4)].windows[(2 : Fin 6)] 703 ∧
      ∀ k : Fin 6, k < 2 → ¬ has keying.title.sets[(1 : Fin 4)].windows[k] 703) := by decide

theorem witness_CarryEndsDot :
    let last := atDot .captured 895 0 none
    let inner := atDot .captured 894 0 none
    (last.Ready ∧ last.raster.lineLen ≤ last.raster.dot + 1) ∧
    (inner.Ready ∧ inner.raster.dot + 1 < inner.raster.lineLen) := by decide

theorem witness_LocalLineStart :
    let cue : Cue := { Cue.reset with enabled := true, line := 1, action := .latch }
    let s : State := { slewing 1 0 with cue := { State.reset.cue with
      count := 1, entries := State.reset.cue.entries.set 0 cue } }
    (s.Ready ∧ s.loop.state = .slew ∧ s.align.choose = 0 ∧
      ∃ e ∈ s.cue.fired .localLines 1 .field1, e.1.action = .latch) ∧
    (State.reset.Ready ∧ State.reset.loop.state ≠ .slew) := by decide

theorem witness_LhsAndTheRasterChecks :
    let s (acc : BitVec 24) (before here : Bool) : State :=
      { atDot .captured 2 10 (some 625) with
        synth := { State.reset.synth with acc := acc }
        raster := { (atDot .captured 2 10 (some 625)).raster with lhs := { before := before, here := here } } }
    let rises (x : State) : Bool :=
      decide (8388608 ≤ x.synth.acc.toNat) && decide (x.synth.acc.toNat < 8388608 + x.synth.applied)
    ((s 8388607 false false).Unowed ∧ rises (s 8388607 false false) = false) ∧
    rises (s (8388608 + 4349649) false false) = false ∧
    (rises (s 8388608 false true) = true ∧ (s 8388608 false true).raster.lhs.here = true) ∧
    ((s 8388608 true false).Unowed ∧ rises (s 8388608 true false) = true ∧ (s 8388608 true false).raster.lhs.before = true) ∧
    (rises (s (8388608 + 4349648) false false) = true ∧ (s 8388608 false false).raster.lhs.before = false) := by decide

theorem witness_LvsCapturesAndMeasures_hunt :
    let s : State := { atDot .align 0 0 none with raster := { (atDot .align 0 0 none).raster with huntDot := true } }
    s.raster.huntDot = true ∧ (atDot .captured 0 0 none).raster.huntDot = false := by decide

theorem witness_LvsCapturesAndMeasures :
    let off (s : State) : Int :=
      if s.raster.dot ≤ s.raster.lineLen / 2 then s.raster.dot else (s.raster.dot : Int) - s.raster.lineLen
    8 < (off (atDot .hunt 9 0 none)).natAbs ∧ 8 < (off (atDot .hunt 887 0 none)).natAbs ∧
    ((off (atDot .hunt 8 0 none)).natAbs ≤ 8 ∧ (atDot .hunt 8 0 none).raster.phase = .hunt) ∧
    ((off (atDot .align 888 0 none)).natAbs ≤ 8 ∧ (atDot .align 888 0 none).raster.phase = .align) ∧
    ((off (atDot .captured 8 625 none)).natAbs ≤ 8 ∧ (atDot .captured 8 625 none).raster.frameLen = none ∧ 625 ≠ 0) ∧
    ((atDot .captured 888 624 (some 625)).raster.frameLen = some (624 + 1)) ∧
    ((atDot .captured 0 0 none).raster.line = 0 ∧ (atDot .captured 0 1 (some 625)).raster.line ≠ 0) := by decide

theorem witness_LocalFieldStart :
    let s (acc : BitVec 24) (before here : Bool) : State :=
      { withActive 0 State.reset with
        synth := { State.reset.synth with acc := acc }
        raster := { State.reset.raster with lvs := { before := before, here := here } } }
    let rises (x : State) : Bool :=
      decide (8388608 ≤ x.synth.acc.toNat) && decide (x.synth.acc.toNat < 8388608 + x.synth.applied)
    ((s 8388607 false false).Unowed ∧ rises (s 8388607 false false) = false) ∧
    (rises (s 8388608 false true) = true ∧ (s 8388608 false true).raster.lvs.here = true) ∧
    (rises (s 8388608 true false) = true ∧ (s 8388608 true false).raster.lvs.before = true) ∧
    ((s 8388608 false false).Unowed ∧ rises (s 8388608 false false) = true ∧
      (s 8388608 false false).raster.lvs.before = false) := by decide

theorem witness_CueInput :
    let s (l : Level) (run : Option Time) : State :=
      { State.reset with cue := { State.reset.cue with filter := { accepted := l, run := run } } }
    ((s .high (some 0)).Ready ∧ (s .high (some 0)).cue.filter.accepted = .high) ∧
    ((s .low none).Ready ∧ (s .low none).cue.filter.accepted = .low ∧ (s .low none).cue.filter.run = none) ∧
    ((s .low (some 0)).cue.filter.run = some 0 ∧ (15 - (0 : Time)).toInt < (s .low (some 0)).cueWidth) ∧
    ((s .low (some 0)).cueWidth : Int) ≤ (16 - (0 : Time)).toInt ∧
    (let kept : State := { s .low (some 0) with cue := { (s .low (some 0)).cue with
       filter := { accepted := .low, run := some 0, hold := some (16, 17) } } }
     kept.Ready ∧ kept.cue.filter.hold = some (16, 17) ∧ (16 - (0 : Time)).toInt < 17) := by decide

theorem witness_CueLook :
    let c : Cue := { Cue.reset with action := .fade, arg := 0xFFFF }
    (3 : Fin 4).val = c.arg.toNat / 16384 ∧ 63 = c.arg.toNat / 256 % 64 ∧ 255 = c.arg.toNat % 256 := by decide

/-- A step that does something, from a state that meets every invariant: a command at the front of the queue. -/
def stepping (c : Instr) : State := { State.reset with pending := [c] }

theorem witness_QueuesStayBounded :
    (stepping .recordTaken).QueuesBounded ∧ ∃ t, step (stepping .recordTaken) = .next t := ⟨by decide, _, rfl⟩

theorem witness_LinesStayNumbered :
    (stepping (.engage 0 0)).LinesNumbered ∧ ∃ t, step (stepping (.engage 0 0)) = .next t := ⟨by decide, _, rfl⟩

theorem witness_RatesStayInRange :
    (stepping (.localLineStart 8)).RatesInRange ∧ (stepping (.localLineStart 8)).SlewCanStop ∧
    ∃ t, step (stepping (.localLineStart 8)) = .next t := ⟨by decide, by decide, _, rfl⟩

theorem witness_CountersStayInRange :
    let s := stepping .localFieldStart
    s.RasterInRange ∧ s.CounterInRange ∧ s.RampsInRange ∧ s.ChainInRange ∧ ∃ t, step s = .next t :=
  ⟨by decide, by decide, by decide, by decide, _, rfl⟩

theorem witness_PinsShowTheState :
    (stepping (.ack 0 0)).PinsTrue ∧ ∃ t, step (stepping (.ack 0 0)) = .next t := ⟨by decide, _, rfl⟩

theorem witness_LoopTransitions :
    ∃ t, State.reset.Unowed ∧ State.reset.headWaits = true ∧ State.reset.loop.seek.inFlight = false ∧
      exec (.engage 0 0) State.reset = .next t ∧ t.loop.state ≠ State.reset.loop.state :=
  ⟨_, by decide, by decide, by decide, rfl, by decide⟩

theorem witness_LoopTransitions_head :
    let s := withCommand 0x01 0 0 State.reset
    ∃ t, s.Unowed ∧ (∃ k rest, s.bus.queue = k :: rest ∧ Instr.engage 0 0 = k.row) ∧ exec (.engage 0 0) s = .next t ∧
      t.loop.state ≠ s.loop.state := ⟨_, by decide, ⟨_, _, rfl, rfl⟩, rfl, by decide⟩

theorem witness_LoopTransitions_beside :
    let s := withCommand 0x08 0 0 (computing 55296 2 0)
    ∃ t, s.Unowed ∧ (Instr.seekComplete.servesFirst s.timebase = false ∧ ∀ k : Command, Instr.seekComplete ≠ k.row) ∧
      s.loop.state = .seek ∧ exec .seekComplete s = .next t ∧ t.loop.state ≠ s.loop.state :=
  ⟨_, by decide, ⟨rfl, fun k => by unfold Command.row; split <;> simp⟩, rfl, rfl, by decide⟩

theorem witness_CausesStay :
    let s : State := { State.reset with att := { causes := 0x8000, enable := 0, mismatch := false } }
    ∃ t, s.bus.queue = [] ∧ exec .recordTaken s = .next t ∧ s.att.causes.getLsbD 15 = true := ⟨_, rfl, rfl, by decide⟩

theorem witness_WhatOnlyAdoptionAndOffChange :
    (∃ t, exec .recordTaken (tracking .pull) = .next t) ∧ (tracking .pull).Ready ∧
    (tracking .pull).loop.state ≠ .off ∧
    (∃ t, exec .localFieldStart State.reset = .next t) ∧ State.reset.title.adoptRequest = false ∧
    (∀ a w l, Instr.recordTaken ≠ .capturedWrite a w l ∧ Instr.recordTaken ≠ .structuralSetupWrite a w l ∧
      Instr.recordTaken ≠ .fieldCounterModeWrite a w l ∧ Instr.recordTaken ≠ .enableMaskWrite a w l) :=
  ⟨⟨_, rfl⟩, by decide, by decide, ⟨_, rfl⟩, by decide, fun _ _ _ => by simp⟩

end Sys2Proof.Tests
end

section
/-! The line lock loop: its power reset, and the rephase by candidates. -/

namespace Sys2Proof.Machine

/-! ### The loop and its setup after power reset (R51) -/

theorem defaultIncrement_eq (dclk : BitVec 2) :
    defaultIncrement dclk = [2174824, 4349649, 4448504, 4971027][dclk.toNat]?.getD 0 := by
  revert dclk; decide

theorem defaultPb16_eq (std : Standard) : defaultPb16 std = if std = .lines525 then 54912 else 55296 := by
  cases std <;> rfl

theorem clamp_defaultDots (dclk : BitVec 2) :
    clamp 64 2047 (lowWord (defaultDots dclk)).toNat = [448, 896, 910, 1024][dclk.toNat]?.getD 0 := by
  revert dclk; decide

theorem clamp_defaultIMin (dclk : BitVec 2) :
    clamp 1048576 8388607 (defaultIMin dclk) = [2038898, 4077796, 4170473, 4660338][dclk.toNat]?.getD 0 := by
  revert dclk; decide

theorem max_clamp_defaultIMax (dclk : BitVec 2) :
    max ([2038898, 4077796, 4170473, 4660338][dclk.toNat]?.getD 0) (clamp 1048576 8388607 (defaultIMax dclk)) =
      [2310750, 4621502, 4726535, 5281716][dclk.toNat]?.getD 0 := by
  revert dclk; decide

theorem defaultIMin_lt (dclk : BitVec 2) : defaultIMin dclk < 2 ^ 32 := by revert dclk; decide

theorem defaultIMax_lt (dclk : BitVec 2) : defaultIMax dclk < 2 ^ 32 := by revert dclk; decide

/-- The two words of a setting hold its value (11.2). -/
theorem highWord_lowWord {n : Nat} (hn : n < 2 ^ 32) : (highWord n).toNat * 65536 + (lowWord n).toNat = n := by
  simp only [highWord, lowWord, BitVec.toNat_ofNat]; omega

section

variable {s : State} {dclk : BitVec 2} {std : Standard}

theorem State.frameLines_of_reset (h : s.setup = .reset dclk std) :
    s.frameLines = if std = .lines525 then 525 else 625 := by
  unfold State.frameLines; rw [h]; cases std <;> rfl

theorem State.setupDots_of_reset (h : s.setup = .reset dclk std) :
    s.setupDots = [448, 896, 910, 1024][dclk.toNat]?.getD 0 := by
  have hw : numAt (loopSetupDefaults dclk std) 1 = (lowWord (defaultDots dclk)).toNat := rfl
  unfold State.setupDots
  rw [h, Setup.reset, hw, clamp_defaultDots]

theorem State.iMin_of_reset (h : s.setup = .reset dclk std) :
    s.iMin = [2038898, 4077796, 4170473, 4660338][dclk.toNat]?.getD 0 := by
  have hw : numAt (loopSetupDefaults dclk std) 3 * 65536 + numAt (loopSetupDefaults dclk std) 2 = defaultIMin dclk :=
    highWord_lowWord (defaultIMin_lt dclk)
  unfold State.iMin
  rw [h, Setup.reset, hw, clamp_defaultIMin]

theorem State.iMax_of_reset (h : s.setup = .reset dclk std) :
    s.iMax = [2310750, 4621502, 4726535, 5281716][dclk.toNat]?.getD 0 := by
  have hw : numAt (loopSetupDefaults dclk std) 5 * 65536 + numAt (loopSetupDefaults dclk std) 4 = defaultIMax dclk :=
    highWord_lowWord (defaultIMax_lt dclk)
  unfold State.iMax
  rw [State.iMin_of_reset h, h, Setup.reset, hw, max_clamp_defaultIMax]

/-- The default V_off is 0, whatever the frame standard bounds it by (R80). -/
theorem State.vOff_of_reset (h : s.setup = .reset dclk std) : s.vOff = 0 := by
  have hw : numAt (loopSetupDefaults dclk std) 27 = 0 := rfl
  unfold State.vOff
  rw [h, Setup.reset, hw]
  simp [clamp]

end

/-- Settles O4: the reset state is written out field by field, and each setting is read from the default words. -/
theorem powerResetLoop : Obligations.PowerResetLoop := by
  intro base dclk std s
  let t := State.powerReset base dclk std s.rawCsync s.rawCue true s.bresetHeld s.choices s.pending
  have hs : t.setup = .reset dclk std := rfl
  refine ⟨t, rfl, rfl, defaultIncrement_eq dclk, rfl, defaultPb16_eq std, rfl, rfl, rfl, rfl, rfl, rfl, rfl, rfl, rfl,
    State.frameLines_of_reset hs, State.setupDots_of_reset hs, State.iMin_of_reset hs, State.iMax_of_reset hs,
    rfl, rfl, rfl, rfl, ?_, ?_⟩
  · rw [State.vOff_of_reset hs]; rfl
  · show roundDiv (defaultPb16 std) 16 = _
    cases std <;> rfl

/-! ### Candidates and the rephase (R42, R44) -/

/-- A rebase, where the edge's own line already has its edge taken (R28, R44). -/
theorem Loop.rebase_eq {t : Time} {n : Nat} {l : Loop} (h : ∀ o ∈ l.lines, o.line = n → o.edge = true) :
    l.rebase t n = { l with
      base := t, baseLine := n, refTime := t, refLine := n, lines := edgeLines t n l.pb16 l.lines } := by
  unfold Loop.rebase edgeLines
  dsimp only
  congr 1
  refine List.map_congr_left fun o ho => ?_
  by_cases hn : o.line = n
  · simp [hn, h o ho hn, Loop.predict, Loop.span]
  · have hb : (o.line == n) = false := beq_false_of_ne hn
    simp [hb, Loop.predict, Loop.span]

/-- A rephase, where the edge's own line already has its edge taken (R44). -/
theorem State.rephase_eq {t : Time} {n : Nat} {s : State} (h : ∀ o ∈ s.loop.lines, o.line = n → o.edge = true) :
    s.rephase t n = { s with
      loop := { s.loop with
        state := .pull, base := t, baseLine := n, refTime := t, refLine := n
        lines := edgeLines t n s.loop.pb16 s.loop.lines
        candidates := [], lockCount := 0, missedRun := 0, holdoverOwed := false }
      att := { s.att with causes := s.att.causes ||| 0x0002 } } := by
  unfold State.rephase State.onLoop
  rw [Loop.rebase_eq h]
  rfl

/-- The state in which a candidate has been entered on line `n`, `list` being the list it gives, before any rephase
(R42). -/
def State.withCandidate (list : List Candidate) (n : Nat) (s : State) : State :=
  { s with
    front := { s.front with
      accum := { s.front.accum with candidates := min 65535 (s.front.accum.candidates + 1) } }
    loop := { s.loop with
      candidates := list
      lines := s.loop.lines.map fun x => if x.line = n then { x with edge := true, candidate := true } else x } }

/-- The line of a candidate has its edge taken (R42). -/
theorem State.withCandidate_edge {list : List Candidate} {n : Nat} {s : State} :
    ∀ o ∈ (s.withCandidate list n).loop.lines, o.line = n → o.edge = true := by
  intro o ho hn
  obtain ⟨x, -, rfl⟩ := List.mem_map.mp ho
  by_cases hx : x.line = n
  · simp [hx]
  · simp [hx] at hn

/-- A candidate is entered, and at J_rephase entries the loop rephases on it (R42, R44). -/
theorem State.addCandidate_eq {t : Time} {off : Int} {n : Nat} {list : List Candidate} {s : State}
    (h : joinCandidates s.gN { time := t, offset := off } s.loop.candidates = list) :
    s.addCandidate t off n =
      if list.length < s.jRephase then s.withCandidate list n else (s.withCandidate list n).rephase t n := by
  subst h
  rw [← ite_not]
  simp only [Nat.not_lt]
  rfl

/-- A record taken with a wide edge in LOCKED is entered as a candidate (R30, R42). -/
theorem State.takeHead_candidate {s : State} {p : Pulse} {rest : List Pulse} {o : OpenLine}
    (hst : s.loop.state = .locked) (hf : s.loop.seek.inFlight = false) (hq : s.front.queue = p :: rest)
    (hl : s.loop.lineFor p.lead = some o) (hc : p.cls = .line) (he : o.edge = false)
    (hn : s.gN < (p.lead - o.pred).toInt.natAbs) (hw : (p.lead - o.pred).toInt.natAbs ≤ s.gW) :
    s.takeHead = ({ s with front := { s.front with queue := rest } } : State).addCandidate p.lead
      (p.lead - o.pred).toInt o.line := by
  rw [State.takeHead_given hq hf (by simp [hst]) (by simp [hst]) hl]
  generalize hu : ({ s with front := { s.front with queue := rest } } : State) = u
  have hgn : ¬ (Machine.sdiff p.lead o.pred).natAbs ≤ u.gN := by subst hu; exact Nat.not_le.mpr hn
  have hgw : (Machine.sdiff p.lead o.pred).natAbs ≤ u.gW := by subst hu; exact hw
  have hus : u.loop.state = .locked := by subst hu; exact hst
  simp only [State.judgeRecord, hc, he, Bool.false_eq_true, if_false, if_neg hgn, if_pos hgw, State.wideEdge, hus]
  rfl

/-- Settles O23: the record is entered as a candidate, and the rephase finds its line's edge taken. -/
theorem rephaseCandidate : Obligations.RephaseCandidate := by
  intro p rest o list s hs hst hf hq hl hc he off hn hw hlist u
  let v : State := { s with front := { s.front with queue := rest } }
  have hjoin : joinCandidates v.gN { time := p.lead, offset := off } v.loop.candidates = list := by
    show joinCandidates s.gN _ s.loop.candidates = list
    rw [hlist]
    cases s.loop.candidates <;> rfl
  have hu : v.withCandidate list o.line = u := rfl
  have hrephase := State.rephase_eq (t := p.lead) (v.withCandidate_edge (list := list) (n := o.line))
  rw [exec_unowed (by simp [IsEvent]) hs]
  show Host.Outcome.next (s.takeHead).drive = _
  rw [State.takeHead_candidate hst hf hq hl hc he hn hw, State.addCandidate_eq hjoin, hrephase, hu]
  rfl

end Sys2Proof.Machine
end

section
/-! The frame aligner: the frame check and the start of a slew. -/

namespace Sys2Proof.Machine

variable {s : State}

/-- When a frame check is made: FRAME MISMATCH does not hold of a captured raster exactly where the frame length is N
(R77, R81). -/
theorem State.checkMade_iff :
    s.checkMade = true ↔
      s.loop.state = .locked ∧ s.raster.phase = .captured ∧ s.raster.frameLen = some s.frameLines := by
  by_cases hp : s.raster.phase = .captured <;> simp [State.checkMade, State.frameMismatch, hp]

/-- The top level of a slew is 1 exactly where the quotient of s_max and a is 0 (R83). -/
theorem max_one_eq_ite (n : Nat) : max 1 n = if n = 0 then 1 else n := by
  split <;> omega

/-- The start of a slew with its entry into SLEW, which empties the candidate list (R21, R83). -/
theorem State.startSlew_eq (delta : Int) :
    s.startSlew delta = { s with
      align := { s.align with
        count := 0, forward := decide (0 < delta), distance := 4096 * delta.natAbs, stepA := s.slewStep,
        top := if s.slewLimit / s.slewStep = 0 then 1 else s.slewLimit / s.slewStep, level := 0,
        abandon := false }
      loop := { s.loop with state := .slew, candidates := [], holdoverOwed := false } } := by
  rw [← max_one_eq_ite]
  rfl

/-- A check that is skipped, or finds the frame in place, clears the misalignment count (R81, R82). -/
theorem State.frameCheck_clear (h : ¬ s.checkMade = true ∨ s.misalignment = 0) :
    s.frameCheck = { s with align := { s.align with count := 0 } } := by
  unfold State.frameCheck
  by_cases hm : s.checkMade = true
  · rw [if_pos hm, if_pos (h.resolve_left (not_not_intro hm))]; rfl
  · rw [if_neg hm]; rfl

/-- A check that is made and finds the frame out of place counts it the first time, and starts a slew the second
(R82). -/
theorem State.frameCheck_misaligned (hm : s.checkMade = true) (hd : s.misalignment ≠ 0) :
    s.frameCheck =
      if s.align.count = 0 then { s with align := { s.align with count := 1 } } else s.startSlew s.misalignment := by
  unfold State.frameCheck
  rw [if_pos hm, if_neg hd]
  rfl

/-- Settles O14: the check clears the count, or finds the frame out of place and counts it or starts the slew. -/
theorem frameCheck : Obligations.FrameCheck := by
  intro delta s hdelta
  obtain rfl : delta = s.misalignment := hdelta
  split
  next hclear => exact State.frameCheck_clear (by rwa [State.checkMade_iff])
  next hmade =>
    obtain ⟨hm, hd⟩ := not_or.mp hmade
    rw [State.frameCheck_misaligned (State.checkMade_iff.mpr (not_not.mp hm)) hd, State.startSlew_eq]

end Sys2Proof.Machine
end

section
/-! The title chain: the sets made active, the chain's step, and the commands of the title engine. -/

namespace Sys2Proof.Machine

variable {s : State}

/-! ### The chain with no expiry owed (R103, R106, R107) -/

/-- The state in which set `i` is active with the whole of its live dwell remaining. -/
def State.withSetActive (i : Fin 4) (s : State) : State :=
  { s with title := { s.title with active := some i, remaining := s.title.sets[i].dwell } }

/-- The state in which no set is active. -/
def State.withNoSetActive (s : State) : State :=
  { s with title := { s.title with active := none, remaining := 0 } }

/-- Both changes of the active set clear the owed expiry, so with none owed the field stands as it was. -/
theorem Title.dwellOwed_cleared {t : Title} (h : t.dwellOwed = false) : { t with dwellOwed := false } = t := by
  cases t; subst h; rfl

theorem State.activate_of_not_owed (h : s.title.dwellOwed = false) (i : Fin 4) :
    s.activate i = s.withSetActive i := by
  unfold State.withSetActive
  rw [← Title.dwellOwed_cleared h]
  rfl

theorem State.deactivate_of_not_owed (h : s.title.dwellOwed = false) : s.deactivate = s.withNoSetActive := by
  unfold State.withNoSetActive
  rw [← Title.dwellOwed_cleared h]
  rfl

/-- The chain steps from the active set to the set its NEXT names, and else it ends with CHAIN END, bit 7 (R103). -/
theorem State.advanceChain_of_active {i : Fin 4} (h : s.title.dwellOwed = false) (ha : s.title.active = some i) :
    s.advanceChain =
      match s.title.sets[i].next with
      | some j => s.withSetActive j
      | none => s.withNoSetActive.withCauses 0x0080 := by
  unfold State.advanceChain
  rw [ha]
  dsimp only
  cases s.title.sets[i].next with
  | some j => exact State.activate_of_not_owed h j
  | none => rw [State.deactivate_of_not_owed h]; rfl

/-! ### The judging (R105, R106) -/

theorem judgeShow_of_set {small : Byte} {i : Fin 4} (hi : small.toNat = i.val) :
    judgeShow small s = (.accepted, s.activate i) := by
  unfold judgeShow
  rw [dif_pos (hi ▸ i.isLt)]
  congr 2
  exact Fin.ext hi

theorem judgeShow_of_not_set {small : Byte} (h : 4 ≤ small.toNat) : judgeShow small s = (.refusedArgument, s) :=
  dif_neg (Nat.not_lt.mpr h)

theorem judgeAdvance_of_none (h : s.title.active = none) : judgeAdvance s = (.refusedState, s) := if_pos h

theorem judgeAdvance_of_active {i : Fin 4} (h : s.title.active = some i) :
    judgeAdvance s = (.accepted, s.advanceChain) := if_neg (by simp [h])

/-! ### The commands at the head of the queue -/

/-- The state in which the queue holds `rest`. -/
def State.withQueue (rest : List Command) (s : State) : State := s.onBus fun b => { b with queue := rest }

@[simp] theorem State.withQueue_title (rest : List Command) : (s.withQueue rest).title = s.title := rfl

/-- The row of a command at the head that never waits: its owner judges it with the command gone from the queue, and the
state it gives, but for the queue, takes the verdict (R166, R168). -/
theorem Command.exec_row_of_judge (c : Command) {rest : List Command} {v : Verdict} {t : State} (h : s.Heads c rest)
    (hl : c.isLoop = false) (hj : c.judge (s.withQueue rest) = (v, t.withQueue rest)) :
    exec c.row s = .next (t.afterCommand c.code rest v).drive := by
  have ht : s.takeCommand c.judge c rest = t.afterCommand c.code rest v := by
    rw [State.takeCommand_eq]
    change (c.judge (s.withQueue rest)).2.giveVerdict c (c.judge (s.withQueue rest)).1 = _
    rw [hj, State.giveVerdict_eq]
    rfl
  rw [Command.exec_row h (s.mustWait_of_not_loop c hl), ht]

/-- Where a command is delivered, no expiry of the dwell is owed (log 6). -/
theorem State.dwell_not_owed_of_heads {c : Command} {rest : List Command} (h : s.Heads c rest) :
    s.title.dwellOwed = false := by
  obtain ⟨⟨-, hdwell, -⟩, -, -⟩ := h
  exact hdwell

variable {small : Byte} {arg : Word} {rest : List Command}

/-- ADOPT (R97). -/
theorem exec_adopt_head (h : s.Heads ⟨0x08, small, arg⟩ rest) :
    exec (.adopt small arg) s = .next
      (({ s with title := { s.title with adoptRequest := true } } : State).afterCommand 0x08 rest .accepted).drive :=
  Command.exec_row_of_judge ⟨0x08, small, arg⟩ h rfl rfl

/-- SHOW of a set there is (R106). -/
theorem exec_show_head_of_set {i : Fin 4} (h : s.Heads ⟨0x10, small, arg⟩ rest) (hi : small.toNat = i.val) :
    exec (.showSet small arg) s = .next ((s.withSetActive i).afterCommand 0x10 rest .accepted).drive :=
  Command.exec_row_of_judge ⟨0x10, small, arg⟩ h rfl <| by
    have hdwell := State.dwell_not_owed_of_heads h
    change judgeShow small _ = _
    rw [judgeShow_of_set hi, State.activate_of_not_owed (s := s.withQueue rest) hdwell]
    rfl

/-- SHOW of a set there is not (R106). -/
theorem exec_show_head_of_not_set (h : s.Heads ⟨0x10, small, arg⟩ rest) (hn : 4 ≤ small.toNat) :
    exec (.showSet small arg) s = .next (s.afterCommand 0x10 rest .refusedArgument).drive :=
  Command.exec_row_of_judge ⟨0x10, small, arg⟩ h rfl (judgeShow_of_not_set hn)

/-- STOP (R107). -/
theorem exec_stop_head (h : s.Heads ⟨0x11, small, arg⟩ rest) :
    exec (.stop small arg) s = .next (s.withNoSetActive.afterCommand 0x11 rest .accepted).drive :=
  Command.exec_row_of_judge ⟨0x11, small, arg⟩ h rfl <| by
    have hdwell := State.dwell_not_owed_of_heads h
    change (Verdict.accepted, State.deactivate _) = _
    rw [State.deactivate_of_not_owed (s := s.withQueue rest) hdwell]
    rfl

/-- ADVANCE with the active set NONE leaves the chain as it was (R105). -/
theorem exec_advance_head_of_none (h : s.Heads ⟨0x12, small, arg⟩ rest) (ha : s.title.active = none) :
    exec (.advance small arg) s = .next (s.afterCommand 0x12 rest .refusedState).drive :=
  Command.exec_row_of_judge ⟨0x12, small, arg⟩ h rfl (judgeAdvance_of_none ha)

/-- ADVANCE from an active set (R103, R105). -/
theorem exec_advance_head_of_active {i : Fin 4} (h : s.Heads ⟨0x12, small, arg⟩ rest) (ha : s.title.active = some i) :
    exec (.advance small arg) s = .next (s.advanceChain.afterCommand 0x12 rest .accepted).drive :=
  Command.exec_row_of_judge ⟨0x12, small, arg⟩ h rfl <| by
    have hdwell := State.dwell_not_owed_of_heads h
    change judgeAdvance _ = _
    rw [judgeAdvance_of_active (s := s.withQueue rest) ha,
      State.advanceChain_of_active (s := s.withQueue rest) hdwell ha, State.advanceChain_of_active hdwell ha,
      State.withQueue_title]
    cases s.title.sets[i].next <;> rfl

/-- Settles O30: each command is judged at the head of the queue, where no expiry of the dwell is owed. -/
theorem titleCommands : Obligations.TitleCommands := by
  intro small arg rest s show' none'
  refine ⟨exec_adopt_head, fun h => ⟨fun i => exec_show_head_of_set h, exec_show_head_of_not_set h⟩, exec_stop_head,
    fun h => ⟨exec_advance_head_of_none h, fun i ha => ?_⟩⟩
  rw [exec_advance_head_of_active h ha, State.advanceChain_of_active (State.dwell_not_owed_of_heads h) ha]
  rfl

end Sys2Proof.Machine
end

section
/-! The ramp units: the requests FADE and CUT at the head of the queue. -/

namespace Sys2Proof.Machine

variable {s : State} {small : Byte} {arg : Word} {rest : List Command}

/-! ### The requests to a unit (R126, R127, R128) -/

/-- The state in which one ramp unit stands as `u`. -/
def State.withRamp (i : Fin 4) (u : Ramp) (s : State) : State :=
  { s with keyer := { s.keyer with ramps := s.keyer.ramps.set i u } }

@[simp] theorem State.withCauses_zero (s : State) : s.withCauses 0 = s := by
  have h : s.att.causes ||| (0 : Word) = s.att.causes := BitVec.or_zero
  unfold State.withCauses
  rw [h]

/-- A cause raised under a condition joins the pending set, and else the set stays (R172). -/
theorem State.raiseIf_eq (p : Prop) [Decidable p] (c : Cause) (s : State) :
    s.raiseIf (decide p) c = s.withCauses (if p then c.mark else 0) := by
  by_cases h : p
  · simp only [h, decide_true, if_true]; rfl
  · simp only [h, decide_false, if_false, State.withCauses_zero]; rfl

/-- FADE of a unit: it moves, or is IDLE with RAMP DONE, bit 15, where the target is its level (R126, R127). -/
theorem State.fadeRamp_eq (i : Fin 4) (target rate : Nat) (s : State) :
    s.fadeRamp i target rate =
      (s.withRamp i
        { level := s.keyer.ramps[i].level, target := target
          rate := if rate = 0 then s.title.ramps[i].rate else rate
          moving := decide (target ≠ s.keyer.ramps[i].level), unstarted := false }).withCauses
        (if target = s.keyer.ramps[i].level then 0x8000 else 0) := by
  unfold State.fadeRamp
  rw [State.raiseIf_eq]
  rfl

/-- CUT of a unit stops it at the level, and raises nothing (R128). -/
theorem State.cutRamp_eq (i : Fin 4) (level : Nat) (s : State) :
    s.cutRamp i level =
      s.withRamp i
        { level := level, target := level, rate := s.keyer.ramps[i].rate, moving := false, unstarted := false } := rfl

/-! ### The judging (R126, R128) -/

theorem judgeFade_of_unit {i : Fin 4} (hi : small.toNat = i.val) :
    judgeFade small arg s = (.accepted, s.fadeRamp i (arg.toNat % 256) (arg.toNat / 256)) := by
  simp only [judgeFade, hi, i.isLt, dif_pos, Fin.eta, lowByte_toNat, highByte_toNat]

theorem judgeFade_of_no_unit (h : 4 ≤ small.toNat) : judgeFade small arg s = (.refusedArgument, s) :=
  dif_neg (Nat.not_lt.mpr h)

theorem judgeCut_of_unit {i : Fin 4} (hi : small.toNat = i.val) :
    judgeCut small arg s = (.accepted, s.cutRamp i (arg.toNat % 256)) := by
  simp only [judgeCut, hi, i.isLt, dif_pos, Fin.eta, lowByte_toNat]

theorem judgeCut_of_no_unit (h : 4 ≤ small.toNat) : judgeCut small arg s = (.refusedArgument, s) :=
  dif_neg (Nat.not_lt.mpr h)

/-! ### The commands at the head of the queue -/

/-- FADE of a unit there is (R126, R127). -/
theorem exec_fade_head_of_unit {i : Fin 4} (h : s.Heads ⟨0x20, small, arg⟩ rest) (hi : small.toNat = i.val) :
    exec (.fade small arg) s = .next
      ((s.fadeRamp i (arg.toNat % 256) (arg.toNat / 256)).afterCommand 0x20 rest .accepted).drive :=
  Command.exec_row_of_judge ⟨0x20, small, arg⟩ h rfl <| by
    change judgeFade small arg _ = _
    rw [judgeFade_of_unit hi, State.fadeRamp_eq, State.fadeRamp_eq]
    rfl

/-- FADE of a unit there is not (R126). -/
theorem exec_fade_head_of_no_unit (h : s.Heads ⟨0x20, small, arg⟩ rest) (hn : 4 ≤ small.toNat) :
    exec (.fade small arg) s = .next (s.afterCommand 0x20 rest .refusedArgument).drive :=
  Command.exec_row_of_judge ⟨0x20, small, arg⟩ h rfl (judgeFade_of_no_unit hn)

/-- CUT of a unit there is (R128). -/
theorem exec_cut_head_of_unit {i : Fin 4} (h : s.Heads ⟨0x21, small, arg⟩ rest) (hi : small.toNat = i.val) :
    exec (.cut small arg) s = .next ((s.cutRamp i (arg.toNat % 256)).afterCommand 0x21 rest .accepted).drive :=
  Command.exec_row_of_judge ⟨0x21, small, arg⟩ h rfl (judgeCut_of_unit hi)

/-- CUT of a unit there is not (R128). -/
theorem exec_cut_head_of_no_unit (h : s.Heads ⟨0x21, small, arg⟩ rest) (hn : 4 ≤ small.toNat) :
    exec (.cut small arg) s = .next (s.afterCommand 0x21 rest .refusedArgument).drive :=
  Command.exec_row_of_judge ⟨0x21, small, arg⟩ h rfl (judgeCut_of_no_unit hn)

/-- Settles O31: each command is judged at the head of the queue, and its request rewrites one ramp unit. -/
theorem fadeAndCut : Obligations.FadeAndCut := by
  intro small arg rest s unit low high
  refine ⟨fun h => ⟨fun i hi => ?_, exec_fade_head_of_no_unit h⟩,
    fun h => ⟨fun i hi => ?_, exec_cut_head_of_no_unit h⟩⟩
  · rw [exec_fade_head_of_unit h hi, State.fadeRamp_eq]; rfl
  · rw [exec_cut_head_of_unit h hi, State.cutRamp_eq]; rfl

end Sys2Proof.Machine
end

section
/-! The keyer's decision for a pixel: the first enabled window of the active set, or the background. -/

namespace Sys2Proof.Machine

variable {s : State} {col index : Nat}

/-- The test by which the keyer looks for a window, as its bounds (R93). -/
theorem Window.enabled_contains_iff (w : Window) (line col : Nat) :
    (w.enabled && w.contains line col) = true ↔
      w.enabled = true ∧ w.top ≤ line ∧ line ≤ w.bottom ∧ w.left ≤ col ∧ col ≤ w.right := by
  simp only [Window.contains, Bool.and_eq_true, decide_eq_true_eq, and_assoc]

/-- The background rule: the whole computer picture at full level, or the programme (R116, R117). -/
theorem State.background_eq (s : State) :
    s.background = if s.backComputer then { key := true, mix := 15 } else { key := false, mix := 0 } := rfl

/-- What a deciding window shows: its level in mode OPAQUE, and in mode INDEX KEY except at its key index; else the
programme (R115, R117). -/
theorem State.windowCell_eq (w : Window) (index : Nat) (s : State) :
    s.windowCell w index =
      if w.mode = .opaqueMode ∨ (w.mode = .indexKey ∧ index ≠ w.keyIndex) then keyOf (s.windowLevel w)
      else { key := false, mix := 0 } := by
  unfold State.windowCell
  cases w.mode with
  | opaqueMode => simp [cellOf_eq]
  | indexKey => by_cases h : index = w.keyIndex <;> simp [h, cellOf_eq, KeyCell.programme]
  | matte => simp [KeyCell.programme]

theorem State.activeWindows_of_active {i : Fin 4} (h : s.title.active = some i) :
    s.activeWindows = s.title.sets[i].windows.toList := by
  unfold State.activeWindows
  rw [h]

/-- With no set active the background rule decides (R101, R116). -/
theorem State.decidePixel_of_none (h : s.title.active = none) : s.decidePixel col index = s.background := by
  unfold State.decidePixel State.activeWindows
  rw [h]
  rfl

/-- Where no enabled window of the active set contains the pixel the background rule decides (R116). -/
theorem State.decidePixel_of_no_window {i : Fin 4} (h : s.title.active = some i)
    (hno : ∀ j : Fin 6, ¬ (s.title.sets[i].windows[j].enabled &&
      s.title.sets[i].windows[j].contains s.keyer.keyLine col) = true) :
    s.decidePixel col index = s.background := by
  unfold State.decidePixel
  rw [State.activeWindows_of_active h,
    (find_first_window s.title.sets[i].windows _).1.mpr fun j => Bool.eq_false_iff.mpr (hno j)]

/-- The first enabled window of the active set that contains the pixel decides it (R115). -/
theorem State.decidePixel_of_first_window {i : Fin 4} {j : Fin 6} (h : s.title.active = some i)
    (hj : (s.title.sets[i].windows[j].enabled && s.title.sets[i].windows[j].contains s.keyer.keyLine col) = true)
    (hfirst : ∀ k : Fin 6, k < j → ¬ (s.title.sets[i].windows[k].enabled &&
      s.title.sets[i].windows[k].contains s.keyer.keyLine col) = true) :
    s.decidePixel col index = s.windowCell s.title.sets[i].windows[j] index := by
  unfold State.decidePixel
  rw [State.activeWindows_of_active h, (find_first_window s.title.sets[i].windows _).2 j hj
    fun k hk => Bool.eq_false_iff.mpr (hfirst k hk)]

/-- Settles O43: the search through the active set finds the first window, or none and the background decides. -/
theorem pixelDecision : Obligations.PixelDecision := by
  intro col index s has back
  have htest (w : Window) : (w.enabled && w.contains s.keyer.keyLine col) = true ↔ has w :=
    w.enabled_contains_iff s.keyer.keyLine col
  have hback : s.background = back := s.background_eq
  rw [← hback]
  refine ⟨State.decidePixel_of_none, fun i hi => ⟨fun hno => ?_, fun j hj hfirst => ?_⟩⟩
  · exact State.decidePixel_of_no_window hi fun j => (htest _).not.mpr (hno j)
  · intro w level
    rw [State.decidePixel_of_first_window hi ((htest _).mpr hj) fun k hk => (htest _).not.mpr (hfirst k hk)]
    exact State.windowCell_eq w index s

end Sys2Proof.Machine
end

section
/-! The field counter: COUNT SET at the head of the queue, in the modes RING and LINEAR. -/

namespace Sys2Proof.Machine

variable {s : State} {small : Byte} {arg : Word} {rest : List Command}

/-- The state in which the field counter stands at a value, with its saturated flag. -/
def State.withCount (n : Nat) (saturated : Bool) (s : State) : State :=
  { s with cue := { s.cue with counter := n, saturated := saturated } }

/-! ### The counter at a value (R149, R151) -/

/-- In RING mode the saturated flag is clear (R149). -/
theorem State.onCue_countAt_ring (n : Nat) (s : State) :
    s.onCue (CueUnit.countAt true n) = s.withCount n false := rfl

/-- In LINEAR mode the saturated flag is set at 65,535 alone (R149). -/
theorem State.onCue_countAt_linear (n : Nat) (s : State) :
    s.onCue (CueUnit.countAt false n) = s.withCount n (decide (n = 65535)) := rfl

/-- The value RING mode makes of one at or above the modulus is the modulus less one (R151). -/
theorem min_pred_modulus (n m : Nat) : min n (m - 1) = if n < m then n else m - 1 := by
  split <;> omega

/-- The test by which COUNT SET raises COUNT SATURATED: the value is 65,535 and the counter did not stand there (R151). -/
theorem countSet_saturates (arg : Word) (n : Nat) :
    (arg == 65535 && n != 65535) = decide (arg.toNat = 65535 ∧ n ≠ 65535) := by
  have harg : arg = 65535 ↔ arg.toNat = 65535 := BitVec.toNat_inj.symm
  rw [Bool.eq_iff_iff]
  simp only [Bool.and_eq_true, beq_iff_eq, bne_iff_ne, decide_eq_true_eq, harg]

/-! ### The judging (R151) -/

theorem judgeCountSet_of_ring (h : s.ringMode = true) :
    judgeCountSet arg s =
      (.accepted, s.withCount (if arg.toNat < s.modulus then arg.toNat else s.modulus - 1) false) := by
  unfold judgeCountSet
  rw [if_pos h, State.onCue_countAt_ring, min_pred_modulus]

theorem judgeCountSet_of_linear (h : s.ringMode = false) :
    judgeCountSet arg s =
      (.accepted, (s.withCount arg.toNat (decide (arg.toNat = 65535))).withCauses
        (if arg.toNat = 65535 ∧ s.cue.counter ≠ 65535 then 0x0200 else 0)) := by
  unfold judgeCountSet
  rw [if_neg (Bool.eq_false_iff.mp h), State.onCue_countAt_linear, countSet_saturates, State.raiseIf_eq]
  rfl

/-! ### The command at the head of the queue -/

/-- COUNT SET in RING mode (R151). -/
theorem exec_countSet_head_of_ring (h : s.Heads ⟨0x30, small, arg⟩ rest) (hring : s.ringMode = true) :
    exec (.countSet small arg) s = .next
      ((s.withCount (if arg.toNat < s.modulus then arg.toNat else s.modulus - 1) false).afterCommand
        0x30 rest .accepted).drive :=
  Command.exec_row_of_judge ⟨0x30, small, arg⟩ h rfl (judgeCountSet_of_ring (s := s.withQueue rest) hring)

/-- COUNT SET in LINEAR mode (R151). -/
theorem exec_countSet_head_of_linear (h : s.Heads ⟨0x30, small, arg⟩ rest) (hlinear : s.ringMode = false) :
    exec (.countSet small arg) s = .next
      (((s.withCount arg.toNat (decide (arg.toNat = 65535))).withCauses
        (if arg.toNat = 65535 ∧ s.cue.counter ≠ 65535 then 0x0200 else 0)).afterCommand 0x30 rest .accepted).drive :=
  Command.exec_row_of_judge ⟨0x30, small, arg⟩ h rfl (judgeCountSet_of_linear (s := s.withQueue rest) hlinear)

/-- Settles O32: the command is judged at the head of the queue, by the mode of the field counter. -/
theorem countSet : Obligations.CountSet := by
  intro small arg rest s h
  cases hmode : s.ringMode with
  | true => exact exec_countSet_head_of_ring h hmode
  | false => exact exec_countSet_head_of_linear h hmode

end Sys2Proof.Machine
end

section
/-! The bus watcher: a write to CMD, and what the assertion and the release of BRESET# reset. -/

namespace Sys2Proof.Machine

variable {s : State}

/-! ### A captured write, with nothing before it (R160) -/

/-- A write to the cue area passes to DRAM and is captured by the word it reaches (R159, R160). -/
theorem exec_capturedWrite_of_mem {a : Addr} {o : Nat} (w : Word) (l : Lanes) (hs : s.Ready)
    (hb : s.bresetHeld = false) (ha : a.toNat = s.bus.base.toNat + o) (ho : o ≤ 2047) :
    exec (.capturedWrite a w l) s = .next ((s.passCycle (.write a w l)).capturePlace (placeOf o) w l).drive := by
  obtain ⟨hunowed, hwaits⟩ := hs
  rw [exec_unowed (by simp [IsEvent]) hunowed]
  change Host.Outcome.next (s.serve.cpuWrite a w l).drive = _
  rw [State.serve_of_headWaits hwaits, State.cpuWrite_of_mem hb ha ho]

/-! ### CMD and the command it encodes (R164) -/

/-- The state in which the CMD shadow stands at a word. -/
def State.withCmd (cmd : Word) (s : State) : State := s.onBus fun b => { b with cmd := cmd }

/-- The command that a word of CMD encodes, with the argument word that goes with it: the code in the high byte, the small
argument in the low byte. -/
def commandOf (cmd arg : Word) : Command :=
  { code := BitVec.ofNat 8 (cmd.toNat / 256), small := BitVec.ofNat 8 (cmd.toNat % 256), arg := arg }

theorem highByte_eq (w : Word) : highByte w = BitVec.ofNat 8 (w.toNat / 256) := by
  rw [← highByte_toNat, BitVec.ofNat_toNat, BitVec.setWidth_eq]

theorem lowByte_eq (w : Word) : lowByte w = BitVec.ofNat 8 (w.toNat % 256) := by
  rw [← lowByte_toNat, BitVec.ofNat_toNat, BitVec.setWidth_eq]

/-- A write that uses the high lane takes its lanes into CMD and enqueues the command that CMD then encodes (R164). -/
theorem State.writeCmd_of_high (w : Word) (low : Bool) (s : State) :
    s.writeCmd w ⟨low, true⟩ = (s.withCmd (mergeLanes s.bus.cmd w ⟨low, true⟩)).enqueueCommand
      (commandOf (mergeLanes s.bus.cmd w ⟨low, true⟩) s.bus.arg) := by
  unfold commandOf
  rw [← highByte_eq, ← lowByte_eq]
  rfl

/-- A write of the low lane alone takes its lane into CMD and enqueues nothing (R164). -/
theorem State.writeCmd_of_low (w : Word) (s : State) :
    s.writeCmd w ⟨true, false⟩ = s.withCmd (mergeLanes s.bus.cmd w ⟨true, false⟩) := rfl

/-- A command joins the queue where fewer than 8 are in it, and else is dropped with COMMAND OVERRUN, bit 11 (R165). -/
theorem State.enqueueCommand_eq (c : Command) (s : State) :
    s.enqueueCommand c =
      if s.bus.queue.length < 8 then { s with bus := { s.bus with queue := s.bus.queue ++ [c] } }
      else s.withCauses 0x0800 := rfl

theorem State.capturePlace_command (w : Word) (l : Lanes) (s : State) :
    s.capturePlace .command w l = s.writeCmd w l := rfl

/-- A write to CMD (R164). -/
theorem exec_capturedWrite_cmd {a : Addr} (w : Word) (l : Lanes) (hs : s.Ready) (hb : s.bresetHeld = false)
    (ha : a.toNat = s.bus.base.toNat + 0x7C1) :
    exec (.capturedWrite a w l) s = .next ((s.passCycle (.write a w l)).writeCmd w l).drive := by
  have hplace : placeOf 0x7C1 = .command := rfl
  rw [exec_capturedWrite_of_mem w l hs hb ha (by decide), hplace, State.capturePlace_command]

/-- Settles O36: by the lanes used, CMD takes the merged word, and with the high lane the command it encodes is
enqueued. -/
theorem commandWrite : Obligations.CommandWrite := by
  intro a w s hs hb ha u half send
  have hhalf : mergeLanes s.bus.cmd w ⟨false, true⟩ = half := mergeLanes_eq s.bus.cmd w ⟨false, true⟩
  have hlow := mergeLanes_eq s.bus.cmd w ⟨true, false⟩
  have hsend (low : Bool) : exec (.capturedWrite a w ⟨low, true⟩) s =
      .next (send ⟨low, true⟩ (mergeLanes s.bus.cmd w ⟨low, true⟩)).drive := by
    rw [exec_capturedWrite_cmd w _ hs hb ha, State.writeCmd_of_high, State.enqueueCommand_eq]
    rfl
  refine ⟨?_, ?_, ?_⟩
  · rw [hsend true, mergeLanes_full]
  · rw [hsend false, hhalf]
  · rw [exec_capturedWrite_cmd w _ hs hb ha, State.writeCmd_of_low]
    exact congrArg (fun cmd => Host.Outcome.next (u ⟨true, false⟩ cmd).drive) hlow

/-! ### BRESET# (R170, R171) -/

/-- The cue unit but its CUE filter takes its power-reset values, whatever level CUE stands at (R157). -/
theorem CueUnit.busReset_eq (l : Level) (c : CueUnit) :
    c.busReset = { CueUnit.reset l with filter := c.filter } := rfl

/-- Of the pending set FRAME MISMATCH, bit 14, is left, while its condition holds (R176). -/
theorem Attention.busReset_eq (a : Attention) :
    a.busReset = { a with causes := if a.mismatch then 0x4000 else 0, enable := 0 } := rfl

/-- What the assertion of BRESET# makes of each block: the title engine, the keyer, the cue unit, the bus watcher and the
attention unit change, and every other block stands as it stood (R110, R134, R157, R170, R176). -/
theorem State.busReset_eq (s : State) :
    s.busReset = { s with
      bus := { s.bus with queue := [], arg := 0, cmd := 0, lastCode := 0, lastVerdict := none }
      title := Title.reset
      keyer := { s.keyer with ramps := Vector.replicate 4 Ramp.reset, rasterSource := false, cueHold := false }
      cue := { CueUnit.reset s.rawCue with filter := s.cue.filter }
      att := { s.att with causes := if s.att.mismatch then 0x4000 else 0, enable := 0 } } := by
  simp only [State.busReset, State.onBus, State.onTitle, State.onKeyer, State.onCue, State.onAtt, Bus.busReset,
    Keyer.busReset, CueUnit.busReset_eq s.rawCue, Attention.busReset_eq]

theorem exec_busReset_of_unowed (h : s.Unowed) : exec .busReset s = .next (s.busReset.setBreset true).drive :=
  exec_unowed (by simp [IsEvent]) h

theorem exec_busResetRelease_of_unowed (h : s.Unowed) : exec .busResetRelease s = .next (s.setBreset false).drive :=
  exec_unowed (by simp [IsEvent]) h

/-- Settles O8: the blocks that BRESET# resets take the values POWER_RESET gives them, and its release moves the pin
alone. -/
theorem busResetKeepsTheLock : Obligations.BusResetKeepsTheLock := by
  intro s base dclk std h
  refine ⟨State.powerReset base dclk std s.rawCsync s.rawCue true s.bresetHeld s.choices s.pending, rfl, ?_,
    exec_busResetRelease_of_unowed h⟩
  rw [exec_busReset_of_unowed h, State.busReset_eq]
  rfl

end Sys2Proof.Machine
end

section
/-! What a row can change: one relation of elementary changes, from which every row is put together. -/

namespace Sys2Proof.Machine

/-! ### The elementary changes -/

/-- The changes that only some rows make: the clearing of causes by ACK, an adoption, and the reset by BRESET#. -/
inductive Special where
  | acking
  | adopting
  | busResetting

/-- A change of the loop that moves no state, no frequency and no validity: the counts and marks, the base, the open lines
kept in order, the candidate list within its bound, and the seek, whose computation begins in SEEK alone. -/
structure Loop.Marks (l l' : Loop) : Prop where
  state : l'.state = l.state
  freq : l'.freq = l.freq
  inc : l'.inc = l.inc
  valid : l'.valid = l.valid
  ordered : openInOrder l.lines = true → openInOrder l'.lines = true
  none : l.lines = [] → l'.lines = []
  flight : l'.seek.inFlight = true → l.seek.inFlight = true ∨ l.state = .seek
  candidates : l'.candidates = l.candidates ∨ l'.candidates.length ≤ 14

/-- The ranges of the raster counter (section 4.2). -/
abbrev Raster.InRange (r : Raster) : Prop :=
  r.dot < r.lineLen ∧ (64 ≤ r.lineLen ∧ r.lineLen ≤ 2047) ∧ r.line ≤ 2047 ∧
    (∀ n, r.frameLen = some n → 1 ≤ n ∧ n ≤ 2048 ∧ r.phase = .captured)

/-- The loop has a prediction in every state but OFF and SEEK (R21). -/
abbrev LoopState.Predicts (st : LoopState) : Prop := st ≠ .off ∧ st ≠ .seek

/-- I takes a value and hands it to the synthesiser (R61). -/
def State.handed (n : Nat) (s : State) : State :=
  (s.onLoop fun l => { l with inc := n }).onSynth fun y => { y with handed := n }

/-- The slew record of a frame `delta` lines out of place (R83). -/
def State.slewRecord (delta : Int) (s : State) : State :=
  s.onAlign fun a => { a with
    count := 0, forward := decide (0 < delta), distance := 4096 * delta.natAbs, stepA := s.slewStep,
    top := max 1 (s.slewLimit / s.slewStep), level := 0, abandon := false }

/-- One elementary change of the state, under the conditions in which the rows make it. The special ones are made only
where `K` allows them. -/
inductive Change (K : Special → Prop) (s : State) : State → Prop
  | outside (tb : Time) (csync cue : Level) (reset breset : Bool) (acc : BitVec 24) (carry : Bool) (pins : Pins)
      (n : Nat) (q : List Instr) :
      Change K s { s with
        timebase := tb, rawCsync := csync, rawCue := cue, resetHeld := reset, bresetHeld := breset
        synth := { s.synth with acc := acc, carryOwed := carry }, pins := pins, choices := n, pending := q }
  | front (f : FrontEnd → FrontEnd) (hq : (f s.front).queue = s.front.queue)
      (hv : (f s.front).lineValid = s.front.lineValid) (hl : (f s.front).line = s.front.line) :
      Change K s (s.onFront f)
  | pushPulse (p : Pulse) (h : s.front.queue.length < 4) :
      Change K s (s.onFront fun f => { f with queue := f.queue ++ [p] })
  | dropPulse (p : Pulse) (rest : List Pulse) (h : s.front.queue = p :: rest) :
      Change K s (s.onFront fun f => { f with queue := rest })
  | countLine (t : Time) : Change K s (s.onFront (FrontEnd.lineStart s.frameLines t))
  | setLine (v : Nat) (hp : s.loop.valid = true) (h1 : 1 ≤ v) (hn : v ≤ s.frameLines) :
      Change K s (s.onFront fun f => { f with lineValid := true, line := v })
  | loop (f : Loop → Loop) (h : s.loop.Marks (f s.loop)) : Change K s (s.onLoop f)
  | freq (n : Nat) (e : Int) (h : s.iMin ≤ n ∧ n ≤ s.iMax) :
      Change K s (s.onLoop fun l => { l with freq := n, lastE := e })
  | hand (n : Nat) (h : s.iMin ≤ n ∧ n ≤ s.iMax) : Change K s (s.handed n)
  | disengage (st : LoopState) (h : ¬ st.Predicts) : Change K s (s.enter st)
  | enter (st : LoopState) (h : s.loop.state.Predicts) (h' : st.Predicts) : Change K s (s.enter st)
  | engage (edge : Time) : Change K s ((s.enter .pull).onLoop (Loop.engage edge))
  | align (f : Aligner → Aligner) (hl : (f s.align).level = s.align.level) (ht : (f s.align).top = s.align.top)
      (hd : (f s.align).distance = s.align.distance) (ha : (f s.align).stepA = s.align.stepA)
      (hc : (f s.align).count = s.align.count ∨ (f s.align).count ≤ 1) : Change K s (s.onAlign f)
  | slewRecord (delta : Int) (h : delta.natAbs ≤ 312) : Change K s (s.slewRecord delta)
  | slip : Change K s (s.onAlign Aligner.slip)
  | abandon : Change K s (s.onAlign Aligner.release)
  | apply : Change K s (s.onSynth fun y => { y with applied := y.handed, carryOwed := false })
  | raster (f : Raster → Raster) (h : s.raster.InRange → (f s.raster).InRange) : Change K s (s.onRaster f)
  | title (f : Title → Title) (hs : (f s.title).sets = s.title.sets) (hr : (f s.title).ramps = s.title.ramps)
      (ha : (f s.title).active = s.title.active) (hd : (f s.title).remaining = s.title.remaining) :
      Change K s (s.onTitle f)
  | activate (i : Fin 4) : Change K s (s.activate i)
  | deactivate : Change K s s.deactivate
  | countDwell : Change K s (s.onTitle Title.countDwell)
  | adopt (h : K .adopting) : Change K s (s.onTitle Title.adopt)
  | adoptCues (h : K .adopting) : Change K s (s.onCue CueUnit.adopt)
  | fade (r : Fin 4) (target rate : Nat) (ht : target ≤ 255) (hr : rate ≤ 255) :
      Change K s (s.onRamp r (Ramp.fade target (s.fadeRate r rate)))
  | cut (r : Fin 4) (level : Nat) (h : level ≤ 255) : Change K s (s.onRamp r (Ramp.cut level))
  | stepRamps : Change K s (s.onKeyer fun k => { k with ramps := #v[s.keyer.ramps[0].step, s.keyer.ramps[1].step,
      s.keyer.ramps[2].step, s.keyer.ramps[3].step] })
  | primeRamps : Change K s s.primeRamps
  | keyer (f : Keyer → Keyer) (hr : (f s.keyer).ramps = s.keyer.ramps)
      (hd : s.keyer.delay.length ≤ 24 → (f s.keyer).delay.length ≤ 24) : Change K s (s.onKeyer f)
  | cue (f : CueUnit → CueUnit) (hn : (f s.cue).count = s.cue.count) (he : (f s.cue).entries = s.cue.entries)
      (hc : (f s.cue).counter = s.cue.counter) (hs : (f s.cue).saturated = s.cue.saturated) : Change K s (s.onCue f)
  | count (n : Nat) (h : s.cue.counter ≤ 65535 → n ≤ 65535) (hr : s.ringMode = true → n < s.modulus) :
      Change K s (s.onCue (CueUnit.countAt s.ringMode n))
  | bus (f : Bus → Bus) (h : (f s.bus).queue.length ≤ s.bus.queue.length) : Change K s (s.onBus f)
  | enqueue (c : Command) (h : s.bus.queue.length < 8) :
      Change K s (s.onBus fun b => { b with queue := b.queue ++ [c] })
  | raise (c : Cause) : Change K s (s.raise c)
  | att (f : Attention → Attention) (h : (f s.att).causes = s.att.causes) : Change K s (s.onAtt f)
  | ack (h : K .acking) (mask : Word) : Change K s (s.onAtt fun a => { a with causes := a.causes &&& ~~~mask })
  | liveWord (i : Nat) (h : 12 ≤ i) (w : Word) (l : Lanes) : Change K s (s.writeLoop i w l)
  | structuralWord (i : Nat) (h : s.loop.state = .off) (hi : ¬ (2 ≤ i ∧ i ≤ 5)) (w : Word) (l : Lanes) :
      Change K s (s.writeLoop i w l)
  | incrementWord (i : Nat) (hi : 2 ≤ i ∧ i ≤ 5) (w : Word) (l : Lanes) (n m : Nat)
      (hn : (s.writeLoop i w l).iMin ≤ n ∧ n ≤ (s.writeLoop i w l).iMax)
      (hm : (s.writeLoop i w l).iMin ≤ m ∧ m ≤ (s.writeLoop i w l).iMax) :
      Change K s (((s.writeLoop i w l).onLoop fun p => { p with freq := n }).handed m)
  | auxWord (i : Nat) (h : i ≠ 10 ∧ i ≠ 11) (w : Word) (l : Lanes) :
      Change K s (s.onSetup fun p => { p with aux := writeAt p.aux i w l })
  | counterWord (i : Nat) (w : Word) (l : Lanes) :
      Change K s (s.onSetup fun p => { p with aux := writeAt p.aux i w l }).fitCounter
  | busReset (h : K .busResetting) : Change K s s.busReset

/-- Elementary changes, one after the other. -/
abbrev Moves (K : Special → Prop) : State → State → Prop := Relation.ReflTransGen (Change K)

end Sys2Proof.Machine
end

section
/-! Every operation of the model as elementary changes, block by block. -/

namespace Sys2Proof.Machine

variable {K : Special → Prop} {s t u : State}

theorem Change.moves (h : Change K s t) : Moves K s t := .single h

theorem Moves.ite {p : Prop} [Decidable p] {t u : State} (ht : p → Moves K s t) (hu : ¬ p → Moves K s u) :
    Moves K s (if p then t else u) := by
  split
  next h => exact ht h
  next h => exact hu h

/-! ### Causes, time, pins -/

theorem raiseIf_moves (b : Bool) (c : Cause) : Moves K s (s.raiseIf b c) := by
  unfold State.raiseIf
  exact .ite (fun _ => (Change.raise c).moves) fun _ => .refl

theorem handMismatch_moves : Moves K s s.handMismatch :=
  (raiseIf_moves _ _).tail (.att _ rfl)

theorem drive_moves : Moves K s s.drive := (Change.outside ..).moves

theorem advanceTo_moves (now : Time) : Moves K s (s.advanceTo now) := (Change.outside ..).moves

theorem setChoices_moves (n : Nat) : Moves K s (s.setChoices n) := (Change.outside ..).moves

theorem setPending_moves (q : List Instr) : Moves K s (s.setPending q) := (Change.outside ..).moves

theorem tie_moves : Moves K s s.tie.2 := setChoices_moves _

theorem tick_moves : Moves K s s.tick := (Change.outside ..).moves

/-! ### The loop's states and increment -/

theorem expireHoldover_moves : Moves K s s.expireHoldover := by
  unfold State.expireHoldover
  exact .ite (fun _ => .tail (Change.disengage .seek (by simp [LoopState.Predicts])).moves (.raise _)) fun _ => .refl

/-! ### The title chain -/

theorem advanceChain_moves : Moves K s s.advanceChain := by
  unfold State.advanceChain
  split
  · exact (Change.title _ rfl rfl rfl rfl).moves
  · split
    · exact (Change.activate _).moves
    · exact .tail Change.deactivate.moves (.raise _)

theorem expireDwell_moves : Moves K s s.expireDwell := by
  unfold State.expireDwell
  exact .ite (fun _ => advanceChain_moves) fun _ => .refl

theorem caughtUp_moves : Moves K s s.caughtUp := expireDwell_moves.trans expireHoldover_moves

theorem cueAdvance_moves : Moves K s s.cueAdvance := by
  unfold State.cueAdvance
  split
  · exact .refl
  · exact .ite (fun _ => advanceChain_moves) fun _ => .refl

/-! ### Ramp units -/

theorem fadeRamp_moves (r : Fin 4) {target rate : Nat} (ht : target ≤ 255) (hr : rate ≤ 255) :
    Moves K s (s.fadeRamp r target rate) :=
  (Change.fade r target rate ht hr).moves.trans (raiseIf_moves _ _)

theorem stepRamps_moves : Moves K s s.stepRamps := Change.stepRamps.moves.trans (raiseIf_moves _ _)

/-! ### Cues -/

theorem argLevel_le (w : Word) : argLevel w ≤ 255 := by unfold argLevel bits; omega

theorem argRate_le (w : Word) : argRate w ≤ 255 := by unfold argRate bits; omega

theorem takeLatch_moves (o : Origin) (t : Time) : Moves K s (s.takeLatch o t) := (Change.cue _ rfl rfl rfl rfl).moves

theorem fire_moves (t : Time) (e : Cue × Nat) : Moves K s (s.fire t e) := by
  unfold State.fire
  split
  · exact .tail (Change.raise _).moves (.cue _ rfl rfl rfl rfl)
  · exact fadeRamp_moves _ (argLevel_le _) (argRate_le _)
  · exact (Change.cut _ _ (argLevel_le _)).moves
  · exact (Change.activate _).moves
  · exact Change.deactivate.moves
  · exact takeLatch_moves _ _
  · exact (Change.keyer _ rfl id).moves
  · exact (Change.keyer _ rfl id).moves

theorem fires_move (t : Time) (l : List (Cue × Nat)) : Moves K s (l.foldl (State.fire t) s) := by
  induction l generalizing s with
  | nil => exact .refl
  | cons e l ih => exact (fire_moves t e).trans ih

theorem look_moves (d : Domain) (n : Nat) (p : Parity) (t : Time) : Moves K s (s.look d n p t) := fires_move t _

theorem State.modulus_pos (s : State) : 1 ≤ s.modulus := (clamp_mem (by decide) _).1

theorem State.modulus_le (s : State) : s.modulus ≤ 50000 := (clamp_mem (by decide) _).2

theorem stepCounter_moves : Moves K s s.stepCounter := by
  have hm := s.modulus_pos
  have hm' := s.modulus_le
  cases hr : s.ringMode with
  | true =>
    have hc := Change.count (K := K) (s := s) (if s.modulus ≤ s.cue.counter + 1 then 0 else s.cue.counter + 1)
      (by intro; split <;> omega) (by intro; split <;> omega)
    rw [hr] at hc
    simpa [State.stepCounter, hr] using hc.moves
  | false =>
    have hc := Change.count (K := K) (s := s) (min 65535 (s.cue.counter + 1)) (by omega) (by simp [hr])
    rw [hr] at hc
    simpa [State.stepCounter, hr] using hc.moves.trans (raiseIf_moves _ _)

theorem countAt_zero_moves : Moves K s (s.onCue (CueUnit.countAt s.ringMode 0)) :=
  (Change.count 0 (by omega) fun _ => s.modulus_pos).moves

theorem actOnPulse_moves (t : Time) : Moves K s (s.actOnPulse t) := by
  unfold State.actOnPulse
  generalize ha : (if s.useReset then s.onCue (CueUnit.countAt s.ringMode 0) else s) = a
  have h1 : Moves K s a := ha ▸ .ite (fun _ => countAt_zero_moves) fun _ => .refl
  dsimp only
  generalize hb : (if s.useAdvance then a.cueAdvance else a) = b
  have h2 : Moves K s b := hb ▸ .ite (fun _ => h1.trans cueAdvance_moves) fun _ => h1
  exact .ite (fun _ => h2.trans (takeLatch_moves _ _)) fun _ => h2

theorem cueRise_moves : Moves K s s.cueRise := by
  unfold State.cueRise
  split
  · exact (Change.cue _ rfl rfl rfl rfl).moves.trans (actOnPulse_moves _)
  · exact .refl

theorem cueFall_moves : Moves K s s.cueFall := by
  unfold State.cueFall
  split
  · exact (Change.cue _ rfl rfl rfl rfl).moves
  · exact .refl

theorem setRawCue_moves (l : Level) : Moves K s (s.setRawCue l) := (Change.outside ..).moves

theorem setRawCsync_moves (l : Level) : Moves K s (s.setRawCsync l) := (Change.outside ..).moves

theorem cueLevel_moves (l : Level) : Moves K s (s.cueLevel l) := (setRawCue_moves l).tail (.cue _ rfl rfl rfl rfl)

/-! ### The frame aligner -/

theorem State.frameLines_eq (s : State) : s.frameLines = 525 ∨ s.frameLines = 625 := by
  unfold State.frameLines; split <;> simp

theorem State.misalignment_natAbs_le (s : State) : s.misalignment.natAbs ≤ 312 := by
  have hn := s.frameLines_eq
  have h := wrapCentred_mem ((s.vOff : Int) - s.raster.line) (p := s.frameLines) (by omega)
  unfold State.misalignment
  omega

theorem startSlew_moves {delta : Int} (hd : delta.natAbs ≤ 312) (hs : s.loop.state = .locked) :
    Moves K s (s.startSlew delta) :=
  .tail (Change.slewRecord delta hd).moves
    (.enter .slew (by simp [State.slewRecord, LoopState.Predicts, hs]) (by simp [LoopState.Predicts]))

theorem frameCheck_moves : Moves K s s.frameCheck := by
  unfold State.frameCheck
  split
  next hm =>
    have hs := (State.checkMade_iff.mp hm).1
    split
    · exact (Change.align _ rfl rfl rfl rfl (.inr (by simp))).moves
    · split
      · exact (Change.align _ rfl rfl rfl rfl (.inr (by simp))).moves
      · exact startSlew_moves s.misalignment_natAbs_le hs
  · exact (Change.align _ rfl rfl rfl rfl (.inr (by simp))).moves

theorem handInc_moves (x : Int) : Moves K s (s.handInc x) := (Change.hand _ (s.clampInc_mem x)).moves

theorem slewLine_moves : Moves K s s.slewLine := by
  unfold State.slewLine
  split
  next hs =>
    dsimp only
    generalize hv : (s.onAlign Aligner.slip).handInc (s.onAlign Aligner.slip).slewInc = v
    have h1 : Moves K s v := hv ▸ Change.slip.moves.trans (handInc_moves _)
    have hst : v.loop.state.Predicts := by
      subst hv; simp [State.handInc, LoopState.Predicts, hs]
    refine .ite (fun _ => ?_) fun _ => h1
    refine .tail (h1.tail ?_) (.raise _)
    by_cases hp : v.afterSlew.Predicts
    · exact .enter _ hst hp
    · exact .disengage _ hp
  · exact .refl

/-! ### The sync front end -/

theorem onAccum_moves (f : FieldMeasure → FieldMeasure) : Moves K s (s.onAccum f) := (Change.front _ rfl rfl rfl).moves

theorem broadcastLine_moves (t : Time) : Moves K s (s.broadcastLine t) := by
  unfold State.broadcastLine
  exact .ite (fun _ => (Change.countLine t).moves.trans (look_moves _ _ _ _)) fun _ => (Change.countLine t).moves

theorem wrapLine_mem {n : Nat} (h : 0 < n) (x : Int) : 1 ≤ wrapLine n x ∧ wrapLine n x ≤ n := by
  have h0 := Int.emod_nonneg (x - 1) (show (n : Int) ≠ 0 by omega)
  have h1 := Int.emod_lt_of_pos (x - 1) (show (0 : Int) < n by omega)
  unfold wrapLine
  omega

theorem State.fieldLine_mem (p : Parity) (s : State) : 1 ≤ s.fieldLine p ∧ s.fieldLine p ≤ s.frameLines := by
  have hn := s.frameLines_eq
  unfold State.fieldLine
  split <;> omega

theorem State.expectedLine_mem (t : Time) (phi : Int) (s : State) :
    1 ≤ s.expectedLine t phi ∧ s.expectedLine t phi ≤ s.frameLines := by
  have hn := s.frameLines_eq
  unfold State.expectedLine
  dsimp only
  split
  · exact s.fieldLine_mem _
  · exact wrapLine_mem (by omega) _

theorem forceLine_moves {v : Nat} (hp : s.loop.valid = true) (h : 1 ≤ v ∧ v ≤ s.frameLines) :
    Moves K s (s.forceLine v) := (Change.setLine v hp h.1 h.2).moves.trans (raiseIf_moves _ _)

theorem skipCheck_moves (t : Time) : Moves K s (s.skipCheck t) := by
  unfold State.skipCheck
  exact .ite (fun _ => (Change.align _ rfl rfl rfl rfl (.inr (by simp))).moves) fun _ => .refl

theorem fieldStart_moves (t : Time) : Moves K s (s.fieldStart t) := by
  unfold State.fieldStart
  split
  next hv =>
    dsimp only
    generalize hu : State.completeField _ _ = u
    have h1 : Moves K s u := by
      subst hu
      exact ((forceLine_moves hv (s.expectedLine_mem _ _)).tail (.front _ rfl rfl rfl)).tail (.front _ rfl rfl rfl)
    exact .ite (fun _ => h1.trans frameCheck_moves) fun _ => h1
  · exact (Change.front _ rfl rfl rfl).moves.trans (skipCheck_moves t)

theorem detect_moves (p : Pulse) : Moves K s (s.detect p) := by
  unfold State.detect
  dsimp only
  refine .ite (fun _ => .tail ?_ (.front _ rfl rfl rfl)) fun _ => (Change.front _ rfl rfl rfl).moves
  exact Moves.ite (fun _ => fieldStart_moves _) fun _ => .refl

theorem enqueuePulse_moves (p : Pulse) : Moves K s (s.enqueuePulse p) := by
  unfold State.enqueuePulse
  exact .ite (fun h => (Change.pushPulse p h).moves) fun _ => (Change.raise _).moves

theorem completePulse_moves (p : Pulse) : Moves K s (s.completePulse p) :=
  (detect_moves p).trans (enqueuePulse_moves p)

theorem csyncFall_moves : Moves K s s.csyncFall := by
  unfold State.csyncFall
  split
  · exact (Change.front _ rfl rfl rfl).moves
  · exact .refl

theorem csyncRise_moves : Moves K s s.csyncRise := by
  unfold State.csyncRise
  split
  · dsimp only
    split
    · exact (Change.front _ rfl rfl rfl).moves.trans (completePulse_moves _)
    · exact (Change.front _ rfl rfl rfl).moves
  · exact .refl

theorem saturate_moves : Moves K s s.saturate := by
  unfold State.saturate
  split
  · exact .ite (fun _ => (Change.front _ rfl rfl rfl).moves.trans (completePulse_moves _)) fun _ => .refl
  · exact .refl

theorem csyncLevel_moves (l : Level) : Moves K s (s.csyncLevel l) :=
  (setRawCsync_moves l).tail (.front _ rfl rfl rfl)

end Sys2Proof.Machine
end

section
/-! The operations of the line lock loop as elementary changes. -/

namespace Sys2Proof.Machine

variable {K : Special → Prop} {s t u : State}

/-! ### Open lines in order -/

/-- Marks and predictions of open lines change nothing of their order. -/
theorem openInOrder_map {f : OpenLine → OpenLine} (hf : ∀ o, (f o).line = o.line ∧ (f o).closed = o.closed)
    (lines : List OpenLine) : openInOrder (lines.map f) = openInOrder lines := by
  induction lines with
  | nil => rfl
  | cons o rest ih =>
    cases rest with
    | nil => simp [openInOrder, hf]
    | cons b rest => simp only [List.map_cons, openInOrder, hf] at ih ⊢; rw [ih]

/-- The oldest line leaves the open lines (R34). -/
theorem openInOrder_tail {o b : OpenLine} {rest : List OpenLine} (h : openInOrder (o :: b :: rest) = true) :
    openInOrder (b :: rest) = true := by
  simp only [openInOrder, Bool.and_eq_true] at h
  exact h.2

/-- The last line is closed and the next one opens (R33). -/
theorem openInOrder_closeLast {front : List OpenLine} {o b : OpenLine} (h : openInOrder (front ++ [o]) = true)
    (hb : b.line = o.line + 1) (hc : b.closed = false) :
    openInOrder (front ++ [{ o with closed := true }, b]) = true := by
  induction front with
  | nil => simp [openInOrder, hb, hc]
  | cons x front ih =>
    cases front with
    | nil =>
      simp only [List.cons_append, List.nil_append, openInOrder, Bool.and_eq_true] at h ⊢
      exact ⟨h.1, by simp [hb, hc]⟩
    | cons y front =>
      simp only [List.cons_append, openInOrder, Bool.and_eq_true] at h ih ⊢
      exact ⟨h.1, ih h.2⟩

/-! ### Changes of the loop that are marks -/

/-- A change of fields other than the lines, the state, the rates, the validity, the candidates and the seek. -/
theorem Loop.Marks.of_eq {l l' : Loop} (h1 : l'.state = l.state) (h2 : l'.freq = l.freq) (h3 : l'.inc = l.inc)
    (h4 : l'.valid = l.valid) (h5 : l'.lines = l.lines)
    (h6 : l'.seek.inFlight = true → l.seek.inFlight = true ∨ l.state = .seek)
    (h7 : l'.candidates = l.candidates ∨ l'.candidates.length ≤ 14) : l.Marks l' :=
  ⟨h1, h2, h3, h4, by rw [h5]; exact id, by rw [h5]; exact id, h6, h7⟩

/-- A change of the open lines that leaves their numbers and what is closed. -/
theorem Loop.Marks.of_map {l l' : Loop} {f : OpenLine → OpenLine}
    (hf : ∀ o, (f o).line = o.line ∧ (f o).closed = o.closed) (h1 : l'.state = l.state) (h2 : l'.freq = l.freq)
    (h3 : l'.inc = l.inc) (h4 : l'.valid = l.valid) (h5 : l'.lines = l.lines.map f) (h6 : l'.seek = l.seek)
    (h7 : l'.candidates = l.candidates ∨ l'.candidates.length ≤ 14) : l.Marks l' :=
  ⟨h1, h2, h3, h4, by rw [h5, openInOrder_map hf]; exact id, by rw [h5]; intro h; rw [h]; rfl,
    by rw [h6]; exact .inl, h7⟩

theorem Loop.Marks.trans {l m n : Loop} (h : l.Marks m) (h' : m.Marks n) : l.Marks n where
  state := h'.state.trans h.state
  freq := h'.freq.trans h.freq
  inc := h'.inc.trans h.inc
  valid := h'.valid.trans h.valid
  ordered := h'.ordered ∘ h.ordered
  none := h'.none ∘ h.none
  flight hf := (h'.flight hf).elim h.flight fun hs => .inr (h.state ▸ hs)
  candidates := h'.candidates.elim (fun e => e ▸ h.candidates) .inr

theorem Loop.marks_onLine (n : Nat) (f : OpenLine → OpenLine) (hf : ∀ o, (f o).line = o.line ∧ (f o).closed = o.closed)
    (l : Loop) : l.Marks (l.onLine n f) :=
  .of_map (f := fun o => if o.line = n then f o else o) (fun o => by split <;> simp [hf]) rfl rfl rfl rfl rfl rfl
    (.inl rfl)

theorem Loop.marks_rebase (t : Time) (n : Nat) (l : Loop) : l.Marks (l.rebase t n) :=
  .of_map (f := fun o => if o.line < n then o else
      { o with pred := { l with base := t, baseLine := n, refTime := t, refLine := n : Loop }.predict (o.line - n) })
    (fun o => by split <;> simp) rfl rfl rfl rfl rfl rfl (.inl rfl)

theorem Loop.marks_closeLast (l : Loop) : l.Marks l.closeLast := by
  unfold Loop.closeLast
  cases hl : l.lines.getLast? with
  | none => exact .of_eq rfl rfl rfl rfl rfl .inl (.inl rfl)
  | some o =>
    have hlines : l.lines = l.lines.dropLast ++ [o] := (List.dropLast_append_getLast? o hl).symm
    refine ⟨rfl, rfl, rfl, rfl, fun h => ?_, fun h => ?_, .inl, .inl rfl⟩
    · rw [hlines] at h
      exact openInOrder_closeLast h rfl rfl
    · simp [h] at hl

/-- Two changes of the loop that are marks are one. -/
theorem loop_moves {f : Loop → Loop} (h : s.loop.Marks (f s.loop)) : Moves K s (s.onLoop f) := (Change.loop f h).moves

/-! ### Closing a line -/

theorem countHoldover_moves : Moves K s s.countHoldover := by
  unfold State.countHoldover
  exact .ite (fun _ => loop_moves (.of_eq rfl rfl rfl rfl rfl .inl (.inl rfl))) fun _ => .refl

theorem closeLine_moves (t : Time) : Moves K s (s.closeLine t) :=
  ((loop_moves s.loop.marks_closeLast).trans (broadcastLine_moves t)).trans countHoldover_moves

theorem closeIfDue_moves : Moves K s s.closeIfDue := by
  unfold State.closeIfDue
  split
  · exact closeLine_moves _
  · exact .refl

theorem closePassed_moves (n : Nat) : Moves K s (s.closePassed n) := by
  induction n generalizing s with
  | zero => exact .refl
  | succ n ih =>
    unfold State.closePassed
    split
    · exact (closeLine_moves _).trans ih
    · exact .refl

/-! ### Edges -/

theorem update_moves (e : Int) : Moves K s (s.update e) :=
  ((Change.freq _ e (s.clampInc_mem _)).moves.trans (handInc_moves _)).trans (onAccum_moves _)

/-- A count moves, and where it has reached its limit another state is entered from one with a prediction. -/
theorem count_enter_moves {f : Loop → Loop} {st : LoopState} (hf : s.loop.Marks (f s.loop))
    (hs : s.loop.state.Predicts) (hst : st.Predicts) : Moves K s ((s.onLoop f).enter st) :=
  (loop_moves hf).tail (.enter st (hf.state ▸ hs) hst)

theorem moveLock_moves (e : Int) (hs : s.loop.state.Predicts) : Moves K s (s.moveLock e) := by
  have hf (n : Nat) : s.loop.Marks { s.loop with lockCount := n } := .of_eq rfl rfl rfl rfl rfl .inl (.inl rfl)
  unfold State.moveLock
  exact .ite (fun _ => .tail (count_enter_moves (hf _) hs (by simp [LoopState.Predicts])) (.raise _))
    fun _ => loop_moves (hf _)

theorem moveUnlock_moves (e : Int) (hs : s.loop.state.Predicts) : Moves K s (s.moveUnlock e) := by
  have hf (n : Nat) : s.loop.Marks { s.loop with unlockCount := n } := .of_eq rfl rfl rfl rfl rfl .inl (.inl rfl)
  unfold State.moveUnlock
  exact .ite (fun _ => count_enter_moves (hf _) hs (by simp [LoopState.Predicts])) fun _ => loop_moves (hf _)

theorem moveReturn_moves (hs : s.loop.state.Predicts) : Moves K s s.moveReturn := by
  have hf (n : Nat) : s.loop.Marks { s.loop with returnCount := n } := .of_eq rfl rfl rfl rfl rfl .inl (.inl rfl)
  have hp : LoopState.pull.Predicts := by simp [LoopState.Predicts]
  have htie (n : Nat) : Moves K s (s.onLoop fun l => { l with returnCount := n }).tie.2 :=
    (loop_moves (hf n)).trans tie_moves
  unfold State.moveReturn
  refine .ite (fun _ => .ite (fun _ => .ite (fun _ => (htie _).tail (.enter .pull ?_ hp)) fun _ => htie _)
    fun _ => count_enter_moves (hf _) hs hp) fun _ => loop_moves (hf _)
  simpa using hs

theorem takeInterval_moves (t : Time) (n : Nat) : Moves K s (s.takeInterval t n) := by
  unfold State.takeInterval
  exact .ite (fun _ => (loop_moves (.of_eq rfl rfl rfl rfl rfl .inl (.inl rfl))).trans (onAccum_moves _)) fun _ => .refl

theorem takeEdge_moves (t : Time) (n : Nat) : Moves K s (s.takeEdge t n) :=
  loop_moves (((s.loop.marks_rebase t n).trans (Loop.marks_onLine n (fun o => { o with edge := true }) (fun _ => ⟨rfl, rfl⟩) _)).trans
    (.of_eq rfl rfl rfl rfl rfl .inl (.inl rfl)))

theorem clearMissed_moves : Moves K s s.clearMissed := by
  unfold State.clearMissed
  split
  · exact loop_moves (.of_eq rfl rfl rfl rfl rfl .inl (.inl rfl))
  · exact loop_moves (.of_eq rfl rfl rfl rfl rfl .inl (.inl rfl))
  · exact .refl

theorem settleEdge_moves (t : Time) : Moves K s (s.settleEdge t) := by
  unfold State.settleEdge
  dsimp only
  split
  next hs =>
    exact (update_moves _).trans (moveLock_moves _ (by simp [State.update, State.onAccum, State.handInc, LoopState.Predicts, hs]))
  next hs =>
    refine ((loop_moves (.of_eq rfl rfl rfl rfl rfl .inl (.inr (by simp)))).trans (update_moves _)).trans
      (moveUnlock_moves _ ?_)
    simp [State.update, State.onAccum, State.handInc, LoopState.Predicts, hs]
  next hs => exact moveReturn_moves (by simp [LoopState.Predicts, hs])
  · exact .refl

theorem acceptEdge_moves (t : Time) (o : OpenLine) : Moves K s (s.acceptEdge t o) := by
  unfold State.acceptEdge
  dsimp only
  refine .trans ?_ (settleEdge_moves t)
  have h := (((onAccum_moves (K := K) (s := s) FieldMeasure.addAccepted).trans (takeInterval_moves t o.line)).trans
    (takeEdge_moves t o.line)).trans clearMissed_moves
  exact Moves.ite (fun _ => h) fun _ => h.trans (closeLine_moves t)

/-! ### Candidates -/

theorem joinCandidates_length (gn : Nat) (c : Candidate) (list : List Candidate) :
    (joinCandidates gn c list).length ≤ list.length + 1 := by
  unfold joinCandidates
  split
  · simp
  · split <;> simp

theorem State.jRephase_le (s : State) : s.jRephase ≤ 15 := (clamp_mem (by decide) _).2

/-- The candidate list that rephases is emptied by the entry to PULL, so that it never stands (R42, R44). -/
theorem addCandidate_moves (t : Time) (off : Int) (n : Nat) (hs : s.loop.state.Predicts) :
    Moves K s (s.addCandidate t off n) := by
  let mark (o : OpenLine) : OpenLine := { o with edge := true, candidate := true }
  have hmark : s.loop.Marks (s.loop.onLine n mark) := Loop.marks_onLine n mark (fun _ => ⟨rfl, rfl⟩) s.loop
  have hj := s.jRephase_le
  unfold State.addCandidate
  refine .ite (fun _ => ?_) fun h => ?_
  · have h1 : Moves K s ((s.onAccum FieldMeasure.addCandidate).onLoop fun l => (l.onLine n mark).rebase t n) :=
      (onAccum_moves _).tail (.loop _ (hmark.trans (Loop.marks_rebase t n _)))
    exact (h1.tail (.enter .pull hs (by simp [LoopState.Predicts]))).tail (.raise _)
  · refine (onAccum_moves _).trans (loop_moves (hmark.trans (.of_eq rfl rfl rfl rfl rfl .inl (.inr ?_))))
    simp only
    omega

theorem normalEdge_moves (t : Time) (o : OpenLine) : Moves K s (s.normalEdge t o) := by
  unfold State.normalEdge
  split
  · exact acceptEdge_moves t o
  · exact acceptEdge_moves t o
  · exact acceptEdge_moves t o
  · exact takeEdge_moves t _
  · exact takeEdge_moves t _
  · exact .refl

theorem wideEdge_moves (t : Time) (off : Int) (o : OpenLine) : Moves K s (s.wideEdge t off o) := by
  unfold State.wideEdge
  split
  · exact acceptEdge_moves t o
  · exact acceptEdge_moves t o
  next hs => exact addCandidate_moves t off _ (by simp [LoopState.Predicts, hs])
  · exact .refl

/-! ### Records -/

theorem judgeRecord_moves (p : Pulse) (o : OpenLine) : Moves K s (s.judgeRecord p o) := by
  have hx : s.loop.Marks (s.loop.onLine o.line fun x => { x with excused := true }) :=
    Loop.marks_onLine _ (fun x => { x with excused := true }) (fun _ => ⟨rfl, rfl⟩) _
  unfold State.judgeRecord
  split
  · exact loop_moves hx
  · exact loop_moves hx
  · exact .ite (fun _ => .refl) fun _ => .ite (fun _ => normalEdge_moves _ _) fun _ =>
      .ite (fun _ => wideEdge_moves _ _ _) fun _ => .refl

theorem seekRecord_moves (p : Pulse) (hs : s.loop.state = .seek) : Moves K s (s.seekRecord p) := by
  have hf (f : Loop → Loop) (h1 : (f s.loop).state = s.loop.state) (h2 : (f s.loop).freq = s.loop.freq)
      (h3 : (f s.loop).inc = s.loop.inc) (h4 : (f s.loop).valid = s.loop.valid)
      (h5 : (f s.loop).lines = s.loop.lines) (h6 : (f s.loop).candidates = s.loop.candidates) :
      Moves K s (s.onLoop f) := loop_moves (.of_eq h1 h2 h3 h4 h5 (fun _ => .inr hs) (.inl h6))
  unfold State.seekRecord
  split
  · exact hf _ rfl rfl rfl rfl rfl rfl
  · exact hf _ rfl rfl rfl rfl rfl rfl
  · split
    · exact hf _ rfl rfl rfl rfl rfl rfl
    · exact hf _ rfl rfl rfl rfl rfl rfl

theorem takeRecord_moves (p : Pulse) : Moves K s (s.takeRecord p) := by
  unfold State.takeRecord
  split
  · exact .refl
  next hs => exact seekRecord_moves p hs
  · split
    · exact .refl
    · exact judgeRecord_moves _ _

theorem takeHead_moves : Moves K s s.takeHead := by
  unfold State.takeHead
  split
  · exact .refl
  next p rest hq => exact .ite (fun _ => .refl) fun _ => (Change.dropPulse p rest hq).moves.trans (takeRecord_moves p)

/-! ### Settling a line -/

theorem addEdgeless_moves : Moves K s s.addEdgeless := loop_moves (.of_eq rfl rfl rfl rfl rfl .inl (.inl rfl))

theorem countMissed_moves : Moves K s s.countMissed := by
  have hc : LoopState.coast.Predicts := by simp [LoopState.Predicts]
  unfold State.countMissed
  split
  next hs =>
    exact .ite (fun _ => count_enter_moves (.of_eq rfl rfl rfl rfl rfl .inl (.inl rfl)) (by simp [LoopState.Predicts, hs]) hc)
      fun _ => loop_moves (.of_eq rfl rfl rfl rfl rfl .inl (.inl rfl))
  next hs =>
    exact .ite (fun _ => count_enter_moves (.of_eq rfl rfl rfl rfl rfl .inl (.inl rfl)) (by simp [LoopState.Predicts, hs]) hc)
      fun _ => loop_moves (.of_eq rfl rfl rfl rfl rfl .inl (.inl rfl))
  · exact loop_moves (.of_eq rfl rfl rfl rfl rfl .inl (.inl rfl))
  · exact .refl

/-- The oldest line, with another behind it, leaves the open lines (R34). -/
theorem Loop.marks_settle {l : Loop} {o b : OpenLine} {rest : List OpenLine} (hl : l.lines = o :: b :: rest)
    (pred : Time) : l.Marks { l with lines := l.lines.tail, priorPred := pred } :=
  ⟨rfl, rfl, rfl, rfl, by rw [hl]; exact openInOrder_tail, by rw [hl]; simp, .inl, .inl rfl⟩

theorem settleAs_moves {o b x : OpenLine} {rest : List OpenLine} (hl : s.loop.lines = o :: b :: rest) :
    Moves K s (s.settleAs x) := by
  have hu : Moves K s (s.onLoop fun l => { l with lines := l.lines.tail, priorPred := x.pred }) :=
    loop_moves (Loop.marks_settle hl _)
  unfold State.settleAs
  dsimp only
  split
  · exact hu
  · exact hu.trans addEdgeless_moves
  · exact (hu.trans (onAccum_moves _)).trans addEdgeless_moves
  · exact ((hu.trans (onAccum_moves _)).trans addEdgeless_moves).trans countMissed_moves

theorem settleIfDue_moves : Moves K s s.settleIfDue := by
  unfold State.settleIfDue State.settleDue
  split
  next o h =>
    split at h
    next hl => exact settleAs_moves hl
    · cases h
  · exact .refl

/-! ### The seek -/

theorem acceptSeek_moves (h : s.iMin ≤ s.loop.seek.result s.loop.pb16 ∧ s.loop.seek.result s.loop.pb16 ≤ s.iMax) :
    Moves K s s.acceptSeek :=
  (((Change.freq _ s.loop.lastE h).moves.trans (handInc_moves _)).tail (.engage _)).trans (closePassed_moves _)

theorem discardSeek_moves : Moves K s s.discardSeek :=
  (loop_moves (.of_eq rfl rfl rfl rfl rfl (by simp) (.inl rfl))).tail (.raise _)

theorem completeSeek_moves : Moves K s s.completeSeek := by
  unfold State.completeSeek
  exact .ite (fun _ => .ite (fun h => acceptSeek_moves h) fun _ => discardSeek_moves) fun _ => .refl

theorem countSeekLine_moves : Moves K s s.countSeekLine := by
  unfold State.countSeekLine
  exact .ite (fun _ => loop_moves (.of_eq rfl rfl rfl rfl rfl .inl (.inl rfl))) fun _ => .refl

end Sys2Proof.Machine
end

section
/-! The keyer, the raster counter, the command table, the bus and the resets as elementary changes; and every row. -/

namespace Sys2Proof.Machine

variable {K : Special → Prop} {s t u : State}

/-! ### Keyer -/

theorem judgeFetch_moves (w : Word) : Moves K s (s.judgeFetch w) := by
  unfold State.judgeFetch
  refine .ite (fun _ => (Change.keyer _ rfl ?_).moves) fun _ => .refl
  intro h
  dsimp only
  split
  · exact h
  next hn =>
    have hlt : s.keyer.delay.length < 24 := by simp at hn; omega
    simp only [List.length_append, List.length_singleton]
    omega

theorem beginKeying_moves (n : Nat) (b : Bool) : Moves K s (s.beginKeying n b) :=
  (Change.keyer _ rfl (by simp)).moves

theorem Keyer.leave_ramps (dot : Nat) (k : Keyer) : (k.leave dot).ramps = k.ramps := by
  unfold Keyer.leave; split <;> rfl

theorem Keyer.leave_delay_length (dot : Nat) (k : Keyer) : (k.leave dot).delay.length ≤ k.delay.length := by
  unfold Keyer.leave
  split
  · exact List.length_filter_le _ _
  · exact le_rfl

theorem leave_moves (dot : Nat) : Moves K s (s.onKeyer (Keyer.leave dot)) :=
  (Change.keyer _ (s.keyer.leave_ramps dot) ((s.keyer.leave_delay_length dot).trans)).moves

/-! ### Raster counter -/

/-- Outside CAPTURED no frame length is known. -/
theorem Raster.InRange.frameLen_of_phase {r : Raster} (h : r.InRange) (hp : r.phase ≠ .captured) : r.frameLen = none := by
  obtain ⟨-, -, -, hf⟩ := h
  cases hr : r.frameLen with
  | none => rfl
  | some n => exact absurd (hf n hr).2.2 hp

theorem Raster.nextLine_le {r : Raster} (h : r.line ≤ 2047) : r.nextLine ≤ 2047 := by
  rw [Raster.nextLine_eq]
  split
  · omega
  · simp_all; omega

theorem State.lvsLine_le {s : State} (h : s.raster.line ≤ 2047) : s.lvsLine ≤ 2048 := by
  unfold State.lvsLine
  repeat' split
  all_goals omega

theorem State.setupDots_mem (s : State) : 64 ≤ s.setupDots ∧ s.setupDots ≤ 2047 := clamp_mem (by decide) _

/-- A change of marks of the raster counter, of its phase where no length is known, and nothing else. -/
theorem raster_moves {f : Raster → Raster} (h : s.raster.InRange → (f s.raster).InRange) : Moves K s (s.onRaster f) :=
  (Change.raster f h).moves

theorem rasterFault_moves : Moves K s s.rasterFault :=
  (((Change.raise _).moves.tail (.keyer _ rfl id)).tail (.raster _ fun ⟨hd, hw, hl, _⟩ => ⟨hd, hw, hl, by simp⟩)).trans
    handMismatch_moves

theorem localLook_moves : Moves K s s.localLook := look_moves _ _ _ _

theorem handLineStart_moves : Moves K s s.handLineStart := by
  unfold State.handLineStart
  refine countSeekLine_moves.trans ?_
  refine Moves.ite (fun _ => Moves.ite (fun _ => ?_) fun _ => ?_) fun _ => localLook_moves.trans slewLine_moves
  · exact (tie_moves.trans localLook_moves).trans slewLine_moves
  · exact (tie_moves.trans slewLine_moves).trans localLook_moves

theorem lineStart_moves : Moves K s s.lineStart := by
  unfold State.lineStart
  dsimp only
  generalize ha : (if s.runsPast then s.rasterFault else s) = a
  have h1 : Moves K s a := ha ▸ .ite (fun _ => rasterFault_moves) fun _ => .refl
  have hstart : a.raster.InRange → (Raster.lineStart a.timebase a.setupDots a.raster).InRange :=
    fun ⟨_, _, hl, hf⟩ => ⟨by have := a.setupDots_mem; show 0 < a.setupDots; omega, a.setupDots_mem,
      Raster.nextLine_le hl, hf⟩
  have h2 := ((h1.trans (leave_moves a.raster.dot)).tail (.raster _ hstart)).tail .apply
  exact (h2.trans handLineStart_moves).tail (.keyer _ rfl id)

theorem carry_moves : Moves K s s.carry := by
  unfold State.carry
  refine .ite (fun _ => lineStart_moves) fun hd => ?_
  have hc : s.raster.InRange → s.raster.carry.InRange :=
    fun ⟨_, hw, hl, hf⟩ => ⟨show s.raster.dot + 1 < s.raster.lineLen by omega, hw, hl, hf⟩
  exact (((leave_moves s.raster.dot).tail (.raster _ hc)).tail (.outside ..)).tail (.keyer _ rfl id)

theorem closeWindow_moves : Moves K s s.closeWindow := by
  unfold State.closeWindow
  exact .ite (fun _ => rasterFault_moves) fun _ => raster_moves id

theorem timeoutLvs_moves : Moves K s s.timeoutLvs := by
  unfold State.timeoutLvs
  exact .ite (fun _ => rasterFault_moves) fun _ => raster_moves id

theorem placeLhs_moves : Moves K s s.placeLhs := by
  refine raster_moves fun h => ?_
  obtain ⟨hd, hw, hl, hf⟩ := h
  refine ⟨?_, hw, hl, fun n hn => ?_⟩
  · show (if s.lhsSetsDot then 0 else s.raster.dot) < s.raster.lineLen
    split <;> omega
  · obtain ⟨h1, h2, hp⟩ := hf n hn
    exact ⟨h1, h2, by show (if s.raster.phase = .hunt then _ else _) = _; simp [hp]⟩

theorem keyLhs_moves : Moves K s s.keyLhs := by
  unfold State.keyLhs
  exact .ite (fun _ => beginKeying_moves _ _) fun _ => beginKeying_moves _ _

theorem seeLhs_moves : Moves K s s.seeLhs := by
  unfold State.seeLhs
  have h : Moves K s (if s.lhsFails then s.failLhs else s) :=
    .ite (fun _ => rasterFault_moves.tail (.raster _ id)) fun _ => .refl
  exact (h.trans placeLhs_moves).trans keyLhs_moves

theorem sampleLhs_moves : Moves K s s.sampleLhs := by
  unfold State.sampleLhs
  exact .ite (fun _ => .ite (fun _ => raster_moves id) fun _ => (raster_moves id).trans seeLhs_moves) fun _ => .refl

/-- The line a line-start LVS begins is numbered 0, and a phase and a length are taken that go together. -/
theorem renumber_moves {p : Phase} {n : Option Nat} (h : s.raster.line ≤ 2047 → ∀ m, n = some m → 1 ≤ m ∧ m ≤ 2048 ∧ p = .captured) :
    Moves K s (s.renumberLine.onRaster fun r => { r with phase := p, frameLen := n, lvsSeen := true }) := by
  have heq : (s.renumberLine.onRaster fun r => { r with phase := p, frameLen := n, lvsSeen := true }) =
      s.onRaster fun r => { (if 0 ≤ s.offset then { r with line := 0 } else { r with renumber := true }) with
        phase := p, frameLen := n, lvsSeen := true } := rfl
  rw [heq]
  refine raster_moves fun ⟨hd, hw, hl, _⟩ => ?_
  split
  · exact ⟨hd, hw, Nat.zero_le _, h hl⟩
  · exact ⟨hd, hw, hl, h hl⟩

theorem capture_moves : Moves K s s.capture := (renumber_moves (by simp)).trans handMismatch_moves

theorem checkLvs_moves (hp : s.raster.phase = .captured) : Moves K s s.checkLvs := by
  unfold State.checkLvs
  split
  · refine .ite (fun _ => rasterFault_moves) fun hz => .trans ?_ handMismatch_moves
    have hlen : s.raster.line ≤ 2047 → ∀ m, some s.lvsLine = some m → 1 ≤ m ∧ m ≤ 2048 ∧ s.raster.phase = .captured := by
      rintro hl m ⟨⟩
      exact ⟨Nat.pos_of_ne_zero hz, State.lvsLine_le hl, hp⟩
    have h := renumber_moves (K := K) hlen
    have hphase : s.renumberLine.raster.phase = s.raster.phase := by
      unfold State.renumberLine; simp only [State.onRaster_raster]; split <;> rfl
    rw [← hphase] at h
    exact h
  · exact .ite (fun _ => raster_moves id) fun _ => rasterFault_moves

theorem takeLvs_moves : Moves K s s.takeLvs := by
  unfold State.takeLvs
  dsimp only
  generalize hu : (s.onRaster fun r => { r with secondField := !s.isLineStartLvs }) = u
  have h1 : Moves K s u := hu ▸ raster_moves id
  refine .ite (fun _ => ?_) fun _ => h1
  split
  · exact h1
  · exact h1.trans capture_moves
  next hp => exact h1.trans (checkLvs_moves (by subst hu; exact hp))

theorem adoptIfAsked_moves (hK : s.title.adoptRequest = true → K .adopting) : Moves K s s.adoptIfAsked := by
  unfold State.adoptIfAsked
  exact .ite (fun h => ((Change.adopt (hK h)).moves.tail (.adoptCues (hK h))).tail .primeRamps) fun _ => .refl

theorem fieldTick_moves (hK : s.title.adoptRequest = true → K .adopting) : Moves K s s.fieldTick :=
  (((adoptIfAsked_moves hK).tail .countDwell).trans stepRamps_moves).trans stepCounter_moves

theorem sampleLvs_moves (hK : s.title.adoptRequest = true → K .adopting) : Moves K s s.sampleLvs := by
  unfold State.sampleLvs
  refine .ite (fun _ => .ite (fun _ => raster_moves id) fun _ => ?_) fun _ => .refl
  exact ((raster_moves id).trans takeLvs_moves).trans (fieldTick_moves (by simpa using hK))

/-! ### Commands -/

theorem giveVerdict_moves (c : Command) (v : Verdict) : Moves K s (s.giveVerdict c v) :=
  (Change.bus _ le_rfl).moves.trans (raiseIf_moves _ _)

theorem judgeEngage_moves : Moves K s (judgeEngage s).2 := by
  unfold judgeEngage
  split
  · exact (Change.disengage .seek (by simp [LoopState.Predicts])).moves
  · exact .refl

theorem judgeRelease_moves : Moves K s (judgeRelease s).2 := by
  have hoff : Moves K s (s.enter .off) := (Change.disengage _ (by simp [LoopState.Predicts])).moves
  unfold judgeRelease
  split
  · exact .refl
  · exact Change.abandon.moves
  · exact hoff.tail (.align (fun a => { a with released := some s.timebase }) rfl rfl rfl rfl (.inl rfl))
  · exact hoff

theorem judgeFreeze_moves : Moves K s (judgeFreeze s).2 := by
  have hf (h : s.loop.state.Predicts) : Moves K s (s.enter .frozen) :=
    (Change.enter _ h (by simp [LoopState.Predicts])).moves
  unfold judgeFreeze
  split
  next hs => exact hf (by simp [LoopState.Predicts, hs])
  next hs => exact hf (by simp [LoopState.Predicts, hs])
  next hs => exact hf (by simp [LoopState.Predicts, hs])
  · exact .refl

theorem judgeResume_moves : Moves K s (judgeResume s).2 := by
  unfold judgeResume
  split
  next hs => exact (Change.enter .coast (by simp [LoopState.Predicts, hs]) (by simp [LoopState.Predicts])).moves
  · exact .refl

theorem judgeAdopt_moves : Moves K s (judgeAdopt s).2 :=
  (Change.title (fun t => { t with adoptRequest := true }) rfl rfl rfl rfl).moves

theorem judgeShow_moves (small : Byte) : Moves K s (judgeShow small s).2 := by
  unfold judgeShow
  split
  · exact (Change.activate _).moves
  · exact .refl

theorem judgeStop_moves : Moves K s (judgeStop s).2 := Change.deactivate.moves

theorem judgeAdvance_moves : Moves K s (judgeAdvance s).2 := by
  unfold judgeAdvance
  split
  · exact .refl
  · exact advanceChain_moves

theorem Byte.toNat_le (b : Byte) : b.toNat ≤ 255 := by have := b.isLt; omega

theorem judgeFade_moves (small : Byte) (arg : Word) : Moves K s (judgeFade small arg s).2 := by
  unfold judgeFade
  split
  · exact fadeRamp_moves _ (Byte.toNat_le _) (Byte.toNat_le _)
  · exact .refl

theorem judgeCut_moves (small : Byte) (arg : Word) : Moves K s (judgeCut small arg s).2 := by
  unfold judgeCut
  split
  · exact (Change.cut _ _ (Byte.toNat_le _)).moves
  · exact .refl

theorem judgeCountSet_moves (arg : Word) : Moves K s (judgeCountSet arg s).2 := by
  have hm := s.modulus_pos
  have hm' := s.modulus_le
  have ha := arg.isLt
  cases hr : s.ringMode with
  | true =>
    have hc := Change.count (K := K) (s := s) (min arg.toNat (s.modulus - 1)) (by omega) (by omega)
    rw [hr] at hc
    simpa [judgeCountSet, hr] using hc.moves
  | false =>
    have hc := Change.count (K := K) (s := s) arg.toNat (by omega) (by simp [hr])
    rw [hr] at hc
    simpa [judgeCountSet, hr] using hc.moves.trans (raiseIf_moves _ _)

theorem judgeAck_moves (hK : K .acking) (mask : Word) : Moves K s (judgeAck mask s).2 := by
  unfold judgeAck
  dsimp only
  have h1 := (Change.ack (s := s) hK mask).moves.trans
    (raiseIf_moves (Cause.frameMismatch.isIn mask && s.att.mismatch) .frameMismatch)
  split
  · exact h1.tail (.keyer _ rfl id)
  · exact h1

/-- A command whose code is not ACK's changes nothing that ACK alone does. -/
theorem judge_moves (c : Command) (hK : c.code = 0x40 → K .acking) : Moves K s (c.judge s).2 := by
  generalize hj : c.judge = judge
  unfold Command.judge at hj
  split at hj <;> subst hj
  · exact judgeEngage_moves
  · exact judgeRelease_moves
  · exact judgeFreeze_moves
  · exact judgeResume_moves
  · exact judgeAdopt_moves
  · exact judgeShow_moves _
  · exact judgeStop_moves
  · exact judgeAdvance_moves
  · exact judgeFade_moves _ _
  · exact judgeCut_moves _ _
  · exact judgeCountSet_moves _
  next h => exact judgeAck_moves (hK (BitVec.eq_of_toNat_eq h)) _
  · exact .refl

theorem takeCommand_moves {judge : State → Verdict × State} (hj : ∀ u : State, Moves K u (judge u).2) (c : Command)
    {rest : List Command} (hr : rest.length ≤ s.bus.queue.length) : Moves K s (s.takeCommand judge c rest) :=
  ((Change.bus _ hr).moves.trans (hj _)).trans (giveVerdict_moves _ _)

theorem serveUntil_moves (stop : Command → Bool) (q : List Command) (hK : ∀ c ∈ q, c.code = 0x40 → K .acking)
    (hq : s.bus.queue = q) : Moves K s (s.serveUntil stop q) := by
  induction q generalizing s with
  | nil => exact .refl
  | cons c q ih =>
    unfold State.serveUntil
    have hlen : q.length ≤ s.bus.queue.length := by simp [hq]
    refine .ite (fun _ => .refl) fun _ => .trans
      (takeCommand_moves (fun u => judge_moves c (hK c (by simp))) c hlen) ?_
    refine ih (fun d hd => hK d (by simp [hd])) ?_
    simp [State.takeCommand, State.judged, State.giveVerdict]

theorem serve_moves (hK : ∀ c ∈ s.bus.queue, c.code = 0x40 → K .acking) : Moves K s s.serve := by
  unfold State.serve
  exact .ite (fun _ => serveUntil_moves _ _ hK rfl) fun _ => .refl

theorem moveOn_moves (now : Time) (hK : ∀ c ∈ s.bus.queue, c.code = 0x40 → K .acking) : Moves K s (s.moveOn now) := by
  unfold State.moveOn
  refine .trans ?_ (advanceTo_moves now)
  exact Moves.ite (fun _ => .refl) fun _ => serve_moves hK

theorem deliver_moves {judge : State → Verdict × State} (hj : ∀ u : State, Moves K u (judge u).2) (c : Command) :
    Moves K s (s.deliver judge c) := by
  obtain h | ⟨hq, h⟩ | ⟨q, hq, h⟩ := State.deliver_cases judge c s
  · rw [h]
  · have he := (Change.enqueue (K := K) (s := s) c (by simp [hq])).moves
    rw [h]
    simpa [State.onBus, hq] using he
  · rw [h]
    exact takeCommand_moves hj c hq

theorem deliverInTurn_moves {judge : State → Verdict × State} (hj : ∀ u : State, Moves K u (judge u).2) (c : Command)
    (hK : ∀ c ∈ s.bus.queue, c.code = 0x40 → K .acking) : Moves K s (s.deliverInTurn judge c) := by
  unfold State.deliverInTurn
  exact .ite (fun _ => (serveUntil_moves _ _ hK rfl).trans (deliver_moves hj c)) fun _ => .refl

/-! ### Bus cycles -/

theorem passCycle_moves (c : BusCycle) : Moves K s (s.passCycle c) := (Change.bus _ le_rfl).moves

theorem answer_moves (w : Word) : Moves K s (s.answer w) := (Change.bus _ le_rfl).moves

theorem enqueueCommand_moves (c : Command) : Moves K s (s.enqueueCommand c) := by
  unfold State.enqueueCommand
  exact .ite (fun h => (Change.enqueue c h).moves) fun _ => (Change.raise _).moves

theorem writeCmd_moves (w : Word) (l : Lanes) : Moves K s (s.writeCmd w l) := by
  unfold State.writeCmd
  exact .ite (fun _ => (Change.bus _ le_rfl).moves.trans (enqueueCommand_moves _)) fun _ => (Change.bus _ le_rfl).moves

/-- A new range clamps F, and I becomes F (R49). -/
theorem State.refitFreq_eq (s : State) :
    s.refitFreq = (s.onLoop fun l => { l with freq := s.clampInc s.loop.freq }).handed
      ((s.onLoop fun l => { l with freq := s.clampInc s.loop.freq }).clampInc (s.clampInc s.loop.freq)) := rfl

theorem refitFreq_moves {i : Nat} (hi : 2 ≤ i ∧ i ≤ 5) (w : Word) (l : Lanes) :
    Moves K s (s.writeLoop i w l).refitFreq := by
  rw [State.refitFreq_eq, State.clampInc_congr (s := s.writeLoop i w l) (State.onLoop_setup _ _)]
  exact (Change.incrementWord i hi w l _ _ (State.clampInc_mem _ _) (State.clampInc_mem _ _)).moves

theorem writeStructural_moves (i : Nat) (w : Word) (l : Lanes) : Moves K s (s.writeStructural i w l) := by
  unfold State.writeStructural
  refine .ite (fun hoff => ?_) fun _ => (Change.raise _).moves
  dsimp only
  generalize hu : (if i = 8 ∨ i = 9 then s.holdCsync else s) = u
  have h1 : Moves K s u := hu ▸ .ite (fun _ => (Change.front _ rfl rfl rfl).moves) fun _ => .refl
  have hu' : u.loop.state = .off := by
    subst hu; split <;> simp [hoff]
  refine h1.trans ?_
  unfold State.afterStructural
  refine Moves.ite (fun hi => ?_) fun hi => .ite (fun hn => refitFreq_moves hn w l) fun hn =>
    (Change.structuralWord i hu' hn w l).moves
  exact (Change.structuralWord i hu' (by omega) w l).moves.trans handMismatch_moves

theorem writeAux_moves {i : Nat} (h : i ≠ 10 ∧ i ≠ 11) (w : Word) (l : Lanes) : Moves K s (s.writeAux i w l) := by
  unfold State.writeAux
  refine .tail ?_ (.auxWord i h w l)
  exact Moves.ite (fun _ => (Change.cue _ rfl rfl rfl rfl).moves) fun _ => .refl

theorem writeRampRecord_moves (i : Nat) (w : Word) (l : Lanes) : Moves K s (s.writeRampRecord i w l) :=
  (Change.title _ rfl rfl rfl rfl).moves

theorem writeWindowSet_moves (i : Nat) (w : Word) (l : Lanes) : Moves K s (s.writeWindowSet i w l) :=
  (Change.title _ rfl rfl rfl rfl).moves

theorem writeCueTable_moves (i : Nat) (w : Word) (l : Lanes) : Moves K s (s.writeCueTable i w l) :=
  (Change.cue _ rfl rfl rfl rfl).moves

theorem writeEnable_moves (w : Word) (l : Lanes) : Moves K s (s.writeEnable w l) := (Change.att _ rfl).moves

theorem writeArg_moves (w : Word) (l : Lanes) : Moves K s (s.writeArg w l) := (Change.bus _ le_rfl).moves

/-- A captured word that a block keeps for itself stands outside the words with places of their own. -/
theorem placeOf_mem (o : Nat) :
    (∀ i, placeOf o = .liveLoop i → 12 ≤ i) ∧ (∀ i, placeOf o = .aux i → i ≠ 10 ∧ i ≠ 11) ∧
      ∀ i, placeOf o = .counterMode i → i ≠ 8 := by
  unfold placeOf
  refine ⟨fun i h => ?_, fun i h => ?_, fun i h => ?_⟩ <;> repeat' split at h
  all_goals cases h
  all_goals omega

theorem capturePlace_moves (o : Nat) (w : Word) (l : Lanes) : Moves K s (s.capturePlace (placeOf o) w l) := by
  obtain ⟨hlive, haux, hcount⟩ := placeOf_mem o
  cases hp : placeOf o with
  | structural i => exact writeStructural_moves i w l
  | liveLoop i => exact (Change.liveWord i (hlive i hp) w l).moves
  | counterMode i =>
    have h := (Change.counterWord (K := K) (s := s) i w l).moves
    simpa [State.capturePlace, State.writeAux, hcount i hp] using h
  | aux i => exact writeAux_moves (haux i hp) w l
  | rampRecord i => exact writeRampRecord_moves i w l
  | enableMask => exact writeEnable_moves w l
  | windowSet i => exact writeWindowSet_moves i w l
  | cueTable i => exact writeCueTable_moves i w l
  | argument => exact writeArg_moves w l
  | command => exact writeCmd_moves w l
  | plain => exact .refl

theorem cpuWrite_moves (a : Addr) (w : Word) (l : Lanes) : Moves K s (s.cpuWrite a w l) := by
  unfold State.cpuWrite
  refine .ite (fun _ => passCycle_moves _) fun _ => ?_
  split
  · exact (passCycle_moves _).trans (capturePlace_moves _ w l)
  · exact passCycle_moves _

theorem cpuRead_moves (a : Addr) (w : ReadWord) : Moves K s (s.cpuRead a w) := by
  have h (v : Word) : Moves K s ((s.passCycle (.read a w.lanes)).answer v) := (passCycle_moves _).trans (answer_moves v)
  unfold State.cpuRead
  refine .ite (fun _ => h _) fun _ => ?_
  split
  · exact h _
  · exact .ite (fun _ => (h _).tail (.bus _ le_rfl)) fun _ => .ite (fun _ => h _) fun _ => h _

theorem fetchCycle_moves (a : Addr) (w : FetchWord) : Moves K s (s.fetchCycle a w) := by
  unfold State.fetchCycle
  exact .ite (fun _ => passCycle_moves _) fun _ => (passCycle_moves _).trans (answer_moves _)

/-! ### Resets -/

theorem setBreset_moves (b : Bool) : Moves K s (s.setBreset b) := (Change.outside ..).moves

theorem releaseReset_moves : Moves K s s.releaseReset := by
  have h : Moves K s (s.setReset false) := (Change.outside ..).moves
  exact (h.tail (.cue _ rfl rfl rfl rfl)).tail (.front _ rfl rfl rfl)

/-! ### Rows -/

theorem heldEffect_moves (c : Instr) : Moves K s (heldEffect c s) := by
  cases c with
  | busReset => exact setBreset_moves _
  | busResetRelease => exact setBreset_moves _
  | capturedWrite => exact passCycle_moves _
  | structuralSetupWrite => exact passCycle_moves _
  | fieldCounterModeWrite => exact passCycle_moves _
  | enableMaskWrite => exact passCycle_moves _
  | reportSummaryRead => exact (passCycle_moves _).trans (answer_moves _)
  | displayFetch => exact fetchCycle_moves _ _
  | csyncLevelChange => exact setRawCsync_moves _
  | cueLevelChange => exact setRawCue_moves _
  | _ => exact .refl

/-- Every row is made of elementary changes: of ACK's only with an ACK in the queue or as its own row, of an adoption's only
where a local field start finds one asked for, and of the reset's only as its own row. -/
theorem effect_moves (c : Instr) (hq : ∀ k ∈ s.bus.queue, k.code = 0x40 → K .acking)
    (ha : ∀ small arg, c = .ack small arg → K .acking) (hb : c = .busReset → K .busResetting)
    (hl : c = .localFieldStart → s.title.adoptRequest = true → K .adopting) : Moves K s (effect c s) := by
  have hmove (now : Time) : Moves K s (s.moveOn now) := moveOn_moves now hq
  have hserve : Moves K s s.serve := serve_moves hq
  cases c with
  | powerReset => exact .refl
  | powerResetEnd => exact .refl
  | busReset => exact (Change.busReset (hb rfl)).moves.trans (setBreset_moves _)
  | busResetRelease => exact setBreset_moves _
  | acceptedFall now => exact (hmove now).trans csyncFall_moves
  | acceptedRise now => exact (hmove now).trans csyncRise_moves
  | pulseSaturation now => exact (hmove now).trans saturate_moves
  | recordTaken => exact takeHead_moves
  | seekComplete => exact completeSeek_moves
  | lineClose now => exact (hmove now).trans closeIfDue_moves
  | holdoverExpired => exact expireHoldover_moves
  | lineSettle now => exact (hmove now).trans settleIfDue_moves
  | engage => exact deliverInTurn_moves (fun _ => judgeEngage_moves) _ hq
  | release => exact deliverInTurn_moves (fun _ => judgeRelease_moves) _ hq
  | freeze => exact deliverInTurn_moves (fun _ => judgeFreeze_moves) _ hq
  | resume => exact deliverInTurn_moves (fun _ => judgeResume_moves) _ hq
  | adopt => exact deliverInTurn_moves (fun _ => judgeAdopt_moves) _ hq
  | showSet => exact deliverInTurn_moves (fun _ => judgeShow_moves _) _ hq
  | stop => exact deliverInTurn_moves (fun _ => judgeStop_moves) _ hq
  | advance => exact deliverInTurn_moves (fun _ => judgeAdvance_moves) _ hq
  | fade => exact deliverInTurn_moves (fun _ => judgeFade_moves _ _) _ hq
  | cut => exact deliverInTurn_moves (fun _ => judgeCut_moves _ _) _ hq
  | countSet => exact deliverInTurn_moves (fun _ => judgeCountSet_moves _) _ hq
  | ack small arg => exact deliverInTurn_moves (fun _ => judgeAck_moves (ha small arg rfl) _) _ hq
  | unknownCommand => exact .ite (fun _ => .refl) fun _ => deliverInTurn_moves (fun _ => .refl) _ hq
  | capturedWrite => exact hserve.trans (cpuWrite_moves _ _ _)
  | structuralSetupWrite => exact hserve.trans (cpuWrite_moves _ _ _)
  | fieldCounterModeWrite => exact hserve.trans (cpuWrite_moves _ _ _)
  | enableMaskWrite => exact hserve.trans (cpuWrite_moves _ _ _)
  | reportSummaryRead => exact hserve.trans (cpuRead_moves _ _)
  | displayFetch => exact (hserve.trans (fetchCycle_moves _ _)).trans (judgeFetch_moves _)
  | lhsSeen => exact sampleLhs_moves
  | lhsWindowClose => exact closeWindow_moves
  | lineZeroLvsTimeout => exact timeoutLvs_moves
  | localFieldStart => exact sampleLvs_moves (hl rfl)
  | dwellExpired => exact expireDwell_moves
  | localLineStart now => exact (hmove now).trans lineStart_moves
  | cuePulse now => exact (hmove now).trans cueRise_moves
  | cueFallAccepted now => exact (hmove now).trans cueFall_moves
  | synthesiserCarry now => exact (hmove now).trans carry_moves
  | csyncLevelChange now => exact (hmove now).trans (csyncLevel_moves _)
  | cueLevelChange now => exact (hmove now).trans (cueLevel_moves _)

/-! ### Steps -/

/-- All of the special changes. -/
abbrev anySpecial : Special → Prop := fun _ => True

/-- Everything a row can do: a power reset, or elementary changes. -/
theorem exec_moves {c : Instr} (h : exec c s = .next t) :
    (∃ b d st csync cue held breset n q, t = State.powerReset b d st csync cue held breset n q) ∨ Moves anySpecial s t := by
  obtain ⟨b, d, st, -, ht⟩ | ⟨-, ht⟩ | ⟨-, -, ht⟩ | ⟨-, -, ht⟩ := exec_next h
  · exact .inl ⟨b, d, st, _, _, _, _, _, _, ht⟩
  · rw [ht]
    exact .inr (.ite (fun _ => releaseReset_moves.trans drive_moves) fun _ => .refl)
  · rw [ht]
    exact .inr (heldEffect_moves c)
  · rw [ht]
    exact .inr ((caughtUp_moves.trans (effect_moves c (by simp) (by simp) (by simp) (by simp))).trans drive_moves)

/-- Everything a step can do: a power reset, or elementary changes. -/
theorem step_moves (h : step s = .next t) :
    (∃ b d st csync cue held breset n q, t = State.powerReset b d st csync cue held breset n q) ∨ Moves anySpecial s t := by
  unfold step at h
  split at h
  · obtain rfl := Host.Outcome.next.inj h
    refine .inr ?_
    obtain h | ⟨i, n, h⟩ | ⟨-, h⟩ := idle_cases s
    · rw [h]
    · rw [h]; exact (setPending_moves _).trans (setChoices_moves _)
    · rw [h]; exact tick_moves
  · obtain hr | hm := exec_moves h
    · exact .inl hr
    · exact .inr ((setPending_moves _).trans hm)

/-- What the power-reset values meet and every elementary change keeps, every step keeps. -/
theorem step_keeps {P : State → Prop}
    (hreset : ∀ b d st csync cue held breset n q, P (State.powerReset b d st csync cue held breset n q))
    (hchange : ∀ s t, Change anySpecial s t → P s → P t) (hs : P s) (h : step s = .next t) : P t := by
  obtain ⟨b, d, st, csync, cue, held, breset, n, q, rfl⟩ | hm := step_moves h
  · exact hreset ..
  · clear h
    induction hm with
    | refl => exact hs
    | tail _ hc ih => exact hchange _ _ hc ih

end Sys2Proof.Machine
end

section
/-! The invariants: each is kept by every elementary change, and so by every step. -/

namespace Sys2Proof.Machine

variable {K : Special → Prop} {s t : State}

/-! ### What the writes of setup words leave -/

theorem wordAt_writeAt_ne {n i j : Nat} (v : Vector Word n) (h : j ≠ i) (w : Word) (l : Lanes) :
    wordAt (writeAt v i w l) j = wordAt v j := by
  simp only [wordAt, writeAt, Vector.getElem?_setIfInBounds, if_neg h.symm]

theorem State.frameLines_writeLoop {i : Nat} (h : i ≠ 0) (w : Word) (l : Lanes) (s : State) :
    (s.writeLoop i w l).frameLines = s.frameLines := by
  simp only [State.frameLines, State.writeLoop, State.onSetup_setup, wordAt_writeAt_ne _ h.symm]

theorem State.iMin_writeLoop {i : Nat} (h : ¬ (2 ≤ i ∧ i ≤ 5)) (w : Word) (l : Lanes) (s : State) :
    (s.writeLoop i w l).iMin = s.iMin := by
  simp only [State.iMin, State.writeLoop, State.onSetup_setup, numAt,
    wordAt_writeAt_ne _ (show 3 ≠ i by omega), wordAt_writeAt_ne _ (show 2 ≠ i by omega)]

theorem State.iMax_writeLoop {i : Nat} (h : ¬ (2 ≤ i ∧ i ≤ 5)) (w : Word) (l : Lanes) (s : State) :
    (s.writeLoop i w l).iMax = s.iMax := by
  unfold State.iMax
  rw [State.iMin_writeLoop h]
  simp only [State.writeLoop, State.onSetup_setup, numAt,
    wordAt_writeAt_ne _ (show 5 ≠ i by omega), wordAt_writeAt_ne _ (show 4 ≠ i by omega)]

/-! ### What the handing over of I and the entry of a state do to the loop (R21, R61) -/

@[simp] theorem State.handed_frame (s : State) (n : Nat) :
    (s.handed n).loop = { s.loop with inc := n } ∧ (s.handed n).synth = { s.synth with handed := n } ∧ (s.handed
    n).timebase = s.timebase ∧ (s.handed n).rawCsync = s.rawCsync ∧ (s.handed n).rawCue = s.rawCue ∧ (s.handed
    n).resetHeld = s.resetHeld ∧ (s.handed n).bresetHeld = s.bresetHeld ∧ (s.handed n).setup = s.setup ∧ (s.handed
    n).front = s.front ∧ (s.handed n).align = s.align ∧ (s.handed n).raster = s.raster ∧ (s.handed n).title =
    s.title ∧ (s.handed n).keyer = s.keyer ∧ (s.handed n).cue = s.cue ∧ (s.handed n).bus = s.bus ∧ (s.handed n).att
    = s.att ∧ (s.handed n).pins = s.pins ∧ (s.handed n).choices = s.choices ∧ (s.handed n).pending = s.pending := by
  simp [State.handed]

/-- I is clamped, taken and handed over (R61). -/
theorem State.handInc_eq (x : Int) (s : State) : s.handInc x = s.handed (s.clampInc x) := rfl

@[simp] theorem State.handInc_loop (x : Int) (s : State) :
    (s.handInc x).loop = { s.loop with inc := s.clampInc x } := (s.handed_frame _).1

@[simp] theorem State.handInc_synth (x : Int) (s : State) :
    (s.handInc x).synth = { s.synth with handed := s.clampInc x } := (s.handed_frame _).2.1

theorem State.enter_state (st : LoopState) (s : State) : (s.enter st).loop.state = st := by
  cases st <;> simp [State.enter, State.incToFreq, State.handInc_eq, Loop.moveTo, Loop.disengage]

theorem State.enter_candidates (st : LoopState) (s : State) : (s.enter st).loop.candidates = [] := by
  cases st <;> simp [State.enter, State.incToFreq, State.handInc_eq, Loop.moveTo, Loop.disengage]

theorem State.enter_freq (st : LoopState) (s : State) : (s.enter st).loop.freq = s.loop.freq := by
  cases st <;> simp [State.enter, State.incToFreq, State.handInc_eq, Loop.moveTo, Loop.disengage]

theorem State.enter_applied (st : LoopState) (s : State) : (s.enter st).synth.applied = s.synth.applied := by
  cases st <;> simp [State.enter, State.incToFreq, State.handInc_eq]

theorem State.enter_queue (st : LoopState) (s : State) : (s.enter st).front.queue = s.front.queue := by
  cases st <;> simp [State.enter, FrontEnd.disengage]

/-- The increment and what is handed of it stay, or become F (R21). -/
theorem State.enter_inc (st : LoopState) (s : State) :
    ((s.enter st).loop.inc = s.loop.inc ∧ (s.enter st).synth.handed = s.synth.handed) ∨
      ((s.enter st).loop.inc = s.clampInc s.loop.freq ∧ (s.enter st).synth.handed = s.clampInc s.loop.freq) := by
  cases st with
  | pull | locked | slew => exact .inl (by simp [State.enter, Loop.moveTo])
  | off | seek | coast | frozen =>
    simp only [State.enter, State.incToFreq, State.handInc_eq, State.handed_frame]
    exact .inr ⟨State.clampInc_congr (by simp) _, State.clampInc_congr (by simp) _⟩

/-- A state with a prediction keeps the prediction, the open lines, the seek and the front end (R21). -/
theorem State.enter_predicts {st : LoopState} (h : st.Predicts) (s : State) :
    (s.enter st).loop.valid = s.loop.valid ∧ (s.enter st).loop.lines = s.loop.lines ∧
      (s.enter st).loop.seek = s.loop.seek ∧ (s.enter st).front = s.front := by
  cases st with
  | off => exact absurd rfl h.1
  | seek => exact absurd rfl h.2
  | _ => simp [State.enter, State.incToFreq, State.handInc_eq, Loop.moveTo]

/-- OFF and SEEK have no prediction, no open lines, no seek computation and no numbered line (R15, R21). -/
theorem State.enter_disengages {st : LoopState} (h : ¬ st.Predicts) (s : State) :
    (s.enter st).loop.valid = false ∧ (s.enter st).loop.lines = [] ∧ (s.enter st).loop.seek.inFlight = false ∧
      (s.enter st).front.lineValid = false ∧ (s.enter st).front.line = 0 := by
  cases st with
  | off | seek => simp [State.enter, State.incToFreq, State.handInc_eq, Loop.moveTo, Loop.disengage, FrontEnd.disengage, Seek.clear]
  | _ => simp [LoopState.Predicts] at h

/-! ### The queues -/

theorem change_keeps_queues (hc : Change K s t) (h : s.QueuesBounded) : t.QueuesBounded := by
  obtain ⟨hp, hb, hk, hn, hq⟩ := h
  cases hc with
  | front f hfq => exact ⟨by simpa [hfq] using hp, hb, hk, hn, hq⟩
  | pushPulse p hlt =>
    exact ⟨by simp only [State.onFront_front, List.length_append, List.length_singleton]; omega, hb, hk, hn, hq⟩
  | dropPulse p rest hr =>
    rw [hr, List.length_cons] at hp
    exact ⟨show rest.length ≤ 4 by omega, hb, hk, hn, hq⟩
  | loop f hf => exact ⟨hp, hb, hk, hf.candidates.elim (fun e => e ▸ hn) id, hq⟩
  | disengage st | enter st => simpa [State.QueuesBounded, State.enter_queue, State.enter_candidates] using ⟨hp, hb, hk, hq⟩
  | engage edge => exact ⟨hp, hb, hk, Nat.zero_le _, hq⟩
  | adoptCues => exact ⟨hp, hb, hk, hn, Nat.min_le_left _ _⟩
  | keyer f _ hd => exact ⟨hp, hb, hd hk, hn, hq⟩
  | cue f hcount => exact ⟨hp, hb, hk, hn, by simpa [hcount] using hq⟩
  | bus f hf => exact ⟨hp, hf.trans hb, hk, hn, hq⟩
  | enqueue c hlt =>
    exact ⟨hp, by simp only [State.onBus_bus, List.length_append, List.length_singleton]; omega, hk, hn, hq⟩
  | busReset => exact ⟨hp, Nat.zero_le _, hk, hn, Nat.zero_le _⟩
  | _ => exact ⟨hp, hb, hk, hn, hq⟩

theorem powerReset_queues (b : BitVec 4) (d : BitVec 2) (st : Standard) (csync cue : Level) (held breset : Bool) (n : Nat)
    (q : List Instr) : (State.powerReset b d st csync cue held breset n q).QueuesBounded :=
  ⟨Nat.zero_le _, Nat.zero_le _, Nat.zero_le _, Nat.zero_le _, Nat.zero_le _⟩

/-- Settles O52: every elementary change keeps the bounds. -/
theorem queuesStayBounded : Obligations.QueuesStayBounded :=
  fun _ _ => step_keeps powerReset_queues fun _ _ => change_keeps_queues

/-! ### The lines -/

theorem State.frameLines_congr (h : t.setup.loop = s.setup.loop) : t.frameLines = s.frameLines := by
  simp only [State.frameLines, h]

/-- The numbering of lines speaks of the front end's line counter, of the loop's state, prediction, open lines and seek,
and, while the prediction is valid, of the frame standard. -/
theorem State.LinesNumbered.congr (h : s.LinesNumbered) (hN : s.loop.valid = true → t.frameLines = s.frameLines)
    (hv : t.front.lineValid = s.front.lineValid) (hl : t.front.line = s.front.line) (h1 : t.loop.state = s.loop.state)
    (h2 : t.loop.valid = s.loop.valid) (h3 : t.loop.lines = s.loop.lines) (h4 : t.loop.seek = s.loop.seek) :
    t.LinesNumbered := by
  obtain ⟨hvalid, hopen, hnone, hnum, hzero, hflight⟩ := h
  unfold State.LinesNumbered
  rw [hv, hl, h1, h2, h3, h4]
  refine ⟨hvalid, hopen, hnone, fun hlv => ?_, hzero, hflight⟩
  obtain ⟨hp, hpos, hle⟩ := hnum hlv
  exact ⟨hp, hpos, (hN hp).symm ▸ hle⟩

/-- A change of other blocks than the setup, the front end and the loop says nothing about lines. -/
theorem State.LinesNumbered.of_blocks (h : s.LinesNumbered) (hs : t.setup.loop = s.setup.loop) (hf : t.front = s.front)
    (hl : t.loop = s.loop) : t.LinesNumbered :=
  h.congr (fun _ => State.frameLines_congr hs) (by rw [hf]) (by rw [hf]) (by rw [hl]) (by rw [hl]) (by rw [hl]) (by rw [hl])

theorem change_keeps_lines (hc : Change K s t) (h : s.LinesNumbered) : t.LinesNumbered := by
  have hall := h
  obtain ⟨hvalid, hopen, hnone, hnum, hzero, hflight⟩ := h
  have hN := s.frameLines_eq
  cases hc with
  | front f _ hv hl => exact hall.congr (fun _ => State.frameLines_congr rfl) hv hl rfl rfl rfl rfl
  | pushPulse | dropPulse | freq | hand =>
    exact hall.congr (fun _ => State.frameLines_congr rfl) rfl rfl rfl rfl rfl rfl
  | countLine u =>
    refine ⟨hvalid, hopen, hnone, fun hv => ?_, fun hv => ?_, hflight⟩
    · obtain ⟨hp, h1, h2⟩ := hnum hv
      refine ⟨hp, ?_⟩
      show 1 ≤ (FrontEnd.lineStart _ _ _).line ∧ (FrontEnd.lineStart _ _ _).line ≤ s.frameLines
      simp only [FrontEnd.lineStart, show s.front.lineValid = true from hv, if_true]
      split <;> omega
    · show (FrontEnd.lineStart _ _ _).line = 0
      simpa [FrontEnd.lineStart, show s.front.lineValid = false from hv] using hzero hv
  | setLine v hp h1 h2 => exact ⟨hvalid, hopen, hnone, fun _ => ⟨hp, h1, h2⟩, by simp, hflight⟩
  | loop f hf =>
    refine ⟨?_, ?_, ?_, ?_, hzero, fun hfl => ?_⟩
    · simpa [hf.valid, hf.state] using hvalid
    · simpa [hf.valid] using fun hv => hf.ordered (hopen hv)
    · simpa [hf.valid] using fun hv => hf.none (hnone hv)
    · rw [State.frameLines_congr (s := s) (t := s.onLoop f) rfl]
      simpa [hf.valid] using hnum
    · exact hf.state.trans ((hf.flight hfl).elim hflight id)
  | disengage st hst =>
    obtain ⟨hv, hl, hf, hlv, hln⟩ := State.enter_disengages hst s
    rw [LoopState.Predicts, ← State.enter_state st s] at hst
    refine ⟨?_, ?_, fun _ => hl, ?_, fun _ => hln, ?_⟩ <;> simp [hv, hf, hlv, hst]
  | enter st hs hst =>
    obtain ⟨hv, hl, hk, hf⟩ := State.enter_predicts hst s
    have hv' : s.loop.valid = true := hvalid.mpr hs
    have hk' : s.loop.seek.inFlight = false := Bool.eq_false_iff.mpr fun hfl => hs.2 (hflight hfl)
    have hN' : (s.enter st).frameLines = s.frameLines := State.frameLines_congr (by simp)
    rw [LoopState.Predicts, ← State.enter_state st s] at hst
    refine ⟨?_, ?_, ?_, ?_, ?_, ?_⟩ <;> simp only [hv, hl, hf, hk, hN']
    · simpa [hv'] using hst
    · exact hopen
    · exact hnone
    · exact hnum
    · exact hzero
    · simp [hk']
  | engage edge =>
    exact ⟨iff_of_true rfl ⟨(nofun : LoopState.pull ≠ .off), (nofun : LoopState.pull ≠ .seek)⟩, fun _ => rfl, nofun,
      fun h => ⟨rfl, (hnum h).2⟩, hzero, nofun⟩
  | structuralWord i hoff w l =>
    have hinvalid : s.loop.valid = false := Bool.eq_false_iff.mpr fun hv => (hvalid.mp hv).1 hoff
    exact hall.congr (by simp [hinvalid]) rfl rfl rfl rfl rfl rfl
  | liveWord i hi w l =>
    exact hall.congr (fun _ => State.frameLines_writeLoop (by omega) w l s) rfl rfl rfl rfl rfl rfl
  | incrementWord i hi w l n m =>
    exact hall.congr (fun _ => (State.frameLines_congr rfl).trans (State.frameLines_writeLoop (by omega) w l s))
      rfl rfl rfl rfl rfl rfl
  | _ => refine hall.of_blocks ?_ ?_ ?_ <;> simp [State.slewRecord]

theorem powerReset_lines (b : BitVec 4) (d : BitVec 2) (st : Standard) (csync cue : Level) (held breset : Bool) (n : Nat)
    (q : List Instr) : (State.powerReset b d st csync cue held breset n q).LinesNumbered := by
  simp [State.LinesNumbered, State.powerReset, Loop.reset, FrontEnd.reset, Seek.clear]

/-- Settles O53: every elementary change keeps the numbering. -/
theorem linesStayNumbered : Obligations.LinesStayNumbered :=
  fun _ _ => step_keeps powerReset_lines fun _ _ => change_keeps_lines

end Sys2Proof.Machine
end

section
/-! The ranges of the rates, the slew, the counters, the ramps and the title chain. -/

namespace Sys2Proof.Machine

variable {K : Special → Prop} {s t : State}

/-! ### The rates -/

/-- The rates are in range where F, I and the two increments are, within the limits of an unchanged setup. -/
theorem State.RatesInRange.of_setup (hs : t.setup.loop = s.setup.loop)
    (hf : s.iMin ≤ t.loop.freq ∧ t.loop.freq ≤ s.iMax) (hi : s.iMin ≤ t.loop.inc ∧ t.loop.inc ≤ s.iMax)
    (hh : 1048576 ≤ t.synth.handed ∧ t.synth.handed ≤ 8388607)
    (ha : 1048576 ≤ t.synth.applied ∧ t.synth.applied ≤ 8388607) : t.RatesInRange := by
  unfold State.RatesInRange
  rw [show t.iMin = s.iMin by simp only [State.iMin, hs], show t.iMax = s.iMax by simp only [State.iMax, State.iMin, hs]]
  exact ⟨hf, hi, hh, ha⟩

/-- The rates speak of the loop setup, F, I and the two increments. -/
theorem State.RatesInRange.congr (h : s.RatesInRange) (hs : t.setup.loop = s.setup.loop)
    (hf : t.loop.freq = s.loop.freq) (hi : t.loop.inc = s.loop.inc) (hh : t.synth.handed = s.synth.handed)
    (ha : t.synth.applied = s.synth.applied) : t.RatesInRange :=
  .of_setup hs (hf ▸ h.1) (hi ▸ h.2.1) (hh ▸ h.2.2.1) (ha ▸ h.2.2.2)

/-- A value clamped to I_min..I_max fits the synthesiser (R59, R63). -/
theorem State.clampInc_fits (x : Int) (s : State) : 1048576 ≤ s.clampInc x ∧ s.clampInc x ≤ 8388607 := by
  have h := s.clampInc_mem x
  have hmin := s.iMin_mem
  have hmax := s.iMax_mem
  omega

/-- A value within I_min..I_max fits the synthesiser (R59, R63). -/
theorem State.fits_of_mem {n : Nat} (h : s.iMin ≤ n ∧ n ≤ s.iMax) : 1048576 ≤ n ∧ n ≤ 8388607 :=
  ⟨s.iMin_mem.1.trans h.1, h.2.trans s.iMax_mem.2⟩

theorem enter_keeps_rates (st : LoopState) (h : s.RatesInRange) : (s.enter st).RatesInRange := by
  have hset : (s.enter st).setup.loop = s.setup.loop := by simp
  obtain ⟨hi, hh⟩ | ⟨hi, hh⟩ := State.enter_inc st s
  · exact h.congr hset (s.enter_freq st) hi hh (s.enter_applied st)
  · obtain ⟨hf, -, -, ha⟩ := h
    refine .of_setup hset ?_ ?_ ?_ ?_
    · rwa [s.enter_freq st]
    · exact hi ▸ s.clampInc_mem _
    · exact hh ▸ State.fits_of_mem (s.clampInc_mem _)
    · rwa [s.enter_applied st]

theorem writeLoop_keeps_rates {i : Nat} (hi : ¬ (2 ≤ i ∧ i ≤ 5)) (w : Word) (l : Lanes) (h : s.RatesInRange) :
    (s.writeLoop i w l).RatesInRange := by
  unfold State.RatesInRange
  rw [State.iMin_writeLoop hi, State.iMax_writeLoop hi]
  exact h

theorem change_keeps_rates (hc : Change K s t) (h : s.RatesInRange) : t.RatesInRange := by
  have hall := h
  obtain ⟨hf, hi, hh, ha⟩ := h
  cases hc with
  | loop f hm => exact hall.congr rfl hm.freq hm.inc rfl rfl
  | freq n e hn => exact .of_setup (s := s) rfl hn hi hh ha
  | hand n hn => exact .of_setup (s := s) rfl hf hn (State.fits_of_mem hn) ha
  | disengage st | enter st => exact enter_keeps_rates st hall
  | engage edge => exact (enter_keeps_rates .pull hall).congr rfl rfl rfl rfl rfl
  | apply => exact .of_setup (s := s) rfl hf hi hh hh
  | liveWord i hi w l => exact writeLoop_keeps_rates (by omega) w l hall
  | structuralWord i _ hi w l => exact writeLoop_keeps_rates hi w l hall
  | incrementWord i _ w l n m hn hm =>
    exact .of_setup (s := s.writeLoop i w l) rfl hn hm (State.fits_of_mem hm) ha
  | _ => exact hall.congr rfl rfl rfl rfl rfl

/-! ### The slew -/

/-- The slew record speaks of the aligner alone. -/
theorem State.SlewCanStop.congr (h : s.SlewCanStop) (ha : t.align = s.align) : t.SlewCanStop := by
  unfold State.SlewCanStop
  rw [ha]
  exact h

/-- The run-down from a level is what this line slips and the run-down from the level below (R84). -/
theorem rundown_succ (a m : Nat) : rundown a m = m * a + a * m * (m - 1) / 2 := by
  unfold rundown
  cases m with
  | zero => simp
  | succ n =>
    have h : a * (n + 1) * (n + 1 + 1) = 2 * ((n + 1) * a) + a * (n + 1) * n := by ring
    rw [Nat.add_sub_cancel, h, Nat.mul_add_div (by decide)]

theorem Aligner.choose_cases (al : Aligner) :
    (al.choose = al.level + 1 ∧ al.mayChoose (al.level + 1)) ∨ (al.choose = al.level ∧ al.mayChoose al.level) ∨
      al.choose = al.level - 1 := by
  unfold Aligner.choose
  split
  · exact .inl ⟨rfl, ‹_›⟩
  · split
    · exact .inr (.inl ⟨rfl, ‹_›⟩)
    · exact .inr (.inr rfl)

theorem Aligner.mayChoose_iff (al : Aligner) (m : Nat) :
    al.mayChoose m = true ↔ m ≤ al.top ∧ rundown al.stepA m ≤ al.distance := by
  simp [Aligner.mayChoose]

/-- The level chosen is within 0..M, and can be run down within D (R84, R86). -/
theorem Aligner.choose_fits {al : Aligner} (hl : al.level ≤ al.top)
    (hd : al.stepA * al.level * (al.level - 1) / 2 ≤ al.distance) :
    al.choose ≤ al.top ∧ rundown al.stepA al.choose ≤ al.distance := by
  obtain ⟨he, hm⟩ | ⟨he, hm⟩ | he := al.choose_cases
  · rw [he]; exact (al.mayChoose_iff _).mp hm
  · rw [he]; exact (al.mayChoose_iff _).mp hm
  · rw [he]
    refine ⟨(Nat.sub_le _ _).trans hl, hd.trans' ?_⟩
    cases al.level with
    | zero => simp [rundown]
    | succ n => rw [rundown, Nat.add_sub_cancel, Nat.mul_right_comm]

theorem change_keeps_slew (hc : Change K s t) (h : s.SlewCanStop) : t.SlewCanStop := by
  have hall := h
  obtain ⟨hl, hd, hn, hmax, ha, htop⟩ := h
  cases hc with
  | align f h1 h2 h3 h4 h5 =>
    have hn' : (f s.align).count ≤ 1 := h5.elim (fun e => e ▸ hn) id
    refine ⟨?_, ?_, hn', ?_, ?_, ?_⟩ <;> simpa [h1, h2, h3, h4]
  | slewRecord delta hdelta =>
    have hstep : 1 ≤ s.slewStep ∧ s.slewStep ≤ 64 := clamp_mem (by decide) _
    have hlim : s.slewLimit ≤ 256 := (clamp_mem (by decide) _).2
    have hdiv : s.slewLimit / s.slewStep ≤ s.slewLimit := Nat.div_le_self _ _
    refine ⟨Nat.zero_le _, by simp [State.slewRecord], Nat.zero_le _, ?_, hstep, ?_⟩
    · show 4096 * delta.natAbs ≤ 1277952
      omega
    · show 1 ≤ max 1 (s.slewLimit / s.slewStep) ∧ max 1 (s.slewLimit / s.slewStep) ≤ 256
      omega
  | slip =>
    obtain ⟨hc, hr⟩ := Aligner.choose_fits hl hd
    rw [rundown_succ] at hr
    refine ⟨hc, ?_, hn, (Nat.sub_le _ _).trans hmax, ha, htop⟩
    show s.align.stepA * s.align.choose * (s.align.choose - 1) / 2 ≤ s.align.distance - s.align.choose * s.align.stepA
    omega
  | abandon =>
    unfold State.SlewCanStop
    rw [State.onAlign_align, Aligner.release]
    split
    · exact hall
    · exact ⟨hl, le_rfl, hn, hd.trans hmax, ha, htop⟩
  | disengage st | enter st => exact hall.congr (by simp)
  | _ => exact hall.congr (by simp [State.writeLoop])

theorem powerReset_rates (b : BitVec 4) (d : BitVec 2) (st : Standard) (csync cue : Level) (held breset : Bool) (n : Nat)
    (q : List Instr) : (State.powerReset b d st csync cue held breset n q).RatesInRange := by
  have hmin := State.iMin_of_reset (s := State.powerReset b d st csync cue held breset n q) (dclk := d) (std := st) rfl
  have hmax := State.iMax_of_reset (s := State.powerReset b d st csync cue held breset n q) (dclk := d) (std := st) rfl
  unfold State.RatesInRange
  rw [hmin, hmax]
  simp only [State.powerReset, Loop.reset, Synth.reset, defaultIncrement_eq]
  clear hmin hmax
  revert d
  decide

theorem powerReset_slew (b : BitVec 4) (d : BitVec 2) (st : Standard) (csync cue : Level) (held breset : Bool) (n : Nat)
    (q : List Instr) : (State.powerReset b d st csync cue held breset n q).SlewCanStop := by
  simp [State.SlewCanStop, State.powerReset, Aligner.reset]

/-- Settles O54: every elementary change keeps the rates, and the slew's run-down within D. -/
theorem ratesStayInRange : Obligations.RatesStayInRange :=
  fun _ _ h => ⟨fun hs => step_keeps powerReset_rates (fun _ _ => change_keeps_rates) hs h,
    fun hs => step_keeps powerReset_slew (fun _ _ => change_keeps_slew) hs h⟩

/-! ### The raster counter -/

/-- The ranges of the raster counter speak of it alone. -/
theorem State.RasterInRange.congr (h : s.RasterInRange) (hr : t.raster = s.raster) : t.RasterInRange := by
  unfold State.RasterInRange
  rw [hr]
  exact h

theorem change_keeps_raster (hc : Change K s t) (h : s.RasterInRange) : t.RasterInRange := by
  cases hc with
  | raster f hf => exact hf h
  | _ => exact h.congr (by simp [State.writeLoop, State.slewRecord])

theorem powerReset_raster (b : BitVec 4) (d : BitVec 2) (st : Standard) (csync cue : Level) (held breset : Bool) (n : Nat)
    (q : List Instr) : (State.powerReset b d st csync cue held breset n q).RasterInRange := by
  simp only [State.RasterInRange, State.powerReset, Raster.reset]
  revert d
  decide

/-! ### The field counter -/

/-- The counter's range speaks of the mode, the modulus, the counter and its saturated flag. -/
theorem State.CounterInRange.congr (h : s.CounterInRange) (hr : t.ringMode = s.ringMode) (hm : t.modulus = s.modulus)
    (hc : t.cue.counter = s.cue.counter) (hs : t.cue.saturated = s.cue.saturated) : t.CounterInRange := by
  unfold State.CounterInRange
  rw [hr, hm, hc, hs]
  exact h

/-- A counter set to a value that the mode allows is in range (R149). -/
theorem countAt_in_range {n : Nat} (hn : n ≤ 65535) (hr : s.ringMode = true → n < s.modulus) :
    (s.onCue (CueUnit.countAt s.ringMode n)).CounterInRange := by
  refine ⟨hn, hr, ?_⟩
  show (!s.ringMode && n == 65535) = true ↔ s.ringMode = false ∧ n = 65535
  simp

theorem fitCounter_in_range (hn : s.cue.counter ≤ 65535) : s.fitCounter.CounterInRange := by
  have hm := s.modulus_pos
  unfold State.fitCounter
  refine countAt_in_range ?_ fun hr => ?_
  · split <;> omega
  · simp only [hr, if_true]; omega

theorem State.ringMode_congr (h : t.setup.aux = s.setup.aux) : t.ringMode = s.ringMode := by simp [State.ringMode, h]

theorem State.modulus_congr (h : t.setup.aux = s.setup.aux) : t.modulus = s.modulus := by simp [State.modulus, h]

theorem change_keeps_counter (hc : Change K s t) (h : s.CounterInRange) : t.CounterInRange := by
  have hall := h
  obtain ⟨hn, hr, hs⟩ := h
  cases hc with
  | disengage st | enter st => exact hall.congr (State.ringMode_congr (by simp)) (State.modulus_congr (by simp)) (by simp) (by simp)
  | cue f _ _ h1 h2 => exact hall.congr rfl rfl h1 h2
  | count n h1 h2 => exact countAt_in_range (h1 hn) h2
  | auxWord i hi w l =>
    refine hall.congr ?_ ?_ rfl rfl
    · simp only [State.ringMode, State.onSetup_setup, wordAt_writeAt_ne _ hi.1.symm]
    · simp only [State.modulus, State.onSetup_setup, numAt, wordAt_writeAt_ne _ hi.2.symm]
  | counterWord i w l => exact fitCounter_in_range hn
  | busReset =>
    refine ⟨Nat.zero_le _, fun _ => State.modulus_pos _, ?_⟩
    simp [State.busReset, CueUnit.busReset, CueUnit.reset]
  | _ =>
    refine hall.congr (State.ringMode_congr ?_) (State.modulus_congr ?_) ?_ ?_ <;>
      simp [State.writeLoop, State.slewRecord, CueUnit.adopt]

theorem powerReset_counter (b : BitVec 4) (d : BitVec 2) (st : Standard) (csync cue : Level) (held breset : Bool) (n : Nat)
    (q : List Instr) : (State.powerReset b d st csync cue held breset n q).CounterInRange :=
  ⟨Nat.zero_le _, fun _ => State.modulus_pos _, by simp [State.powerReset, CueUnit.reset]⟩

/-! ### The ramp units -/

theorem Ramp.reset_in_range : Ramp.reset.InRange := by simp [Ramp.InRange, Ramp.reset]

theorem Ramp.fade_in_range {u : Ramp} (h : u.InRange) {target rate : Nat} (ht : target ≤ 255) (hr : 1 ≤ rate ∧ rate ≤ 255) :
    (u.fade target rate).InRange := ⟨h.1, ht, hr, by simp [Ramp.fade]⟩

theorem Ramp.cut_in_range {u : Ramp} (h : u.InRange) {level : Nat} (hl : level ≤ 255) : (u.cut level).InRange :=
  ⟨hl, hl, h.2.2.1, by simp [Ramp.cut]⟩

theorem Ramp.prime_in_range {u : Ramp} (h : u.InRange) {rec : RampRecord} (hl : rec.level ≤ 255) :
    (u.prime rec).InRange := by
  unfold Ramp.prime
  split
  · exact ⟨hl, hl, h.2.2.1, by simp⟩
  · exact h

/-- A step that does not arrive stays short of its target (R125). -/
theorem Ramp.step_in_range {u : Ramp} (h : u.InRange) : u.step.InRange := by
  obtain ⟨hl, ht, hr, hu⟩ := h
  unfold Ramp.step
  split
  next hm =>
    have hu' : u.unstarted = false := Bool.eq_false_iff.mpr fun he => by simp [hu he] at hm
    split
    · exact ⟨ht, ht, hr, by simp⟩
    next ha =>
      have ha' : ¬ (u.level ≤ u.target + u.rate ∧ u.target ≤ u.level + u.rate) := by
        simpa [Ramp.arrives, hm] using ha
      split
      · exact ⟨by dsimp only; omega, ht, hr, by simp [hu']⟩
      · exact ⟨by dsimp only; omega, ht, hr, by simp [hu']⟩
  · exact ⟨hl, ht, hr, hu⟩

/-- One unit changes within its ranges. -/
theorem onRamp_keeps_ramps {r : Fin 4} {f : Ramp → Ramp} (h : s.RampsInRange)
    (hf : s.keyer.ramps[r].InRange → (f s.keyer.ramps[r]).InRange) : (s.onRamp r f).RampsInRange := by
  obtain ⟨hu, hrec⟩ := h
  refine ⟨fun i => ?_, hrec⟩
  show ((s.keyer.ramps.set r (f s.keyer.ramps[r]))[i]).InRange
  by_cases hi : i = r
  · subst hi
    simpa using hf (hu i)
  · have hne : r.val ≠ i.val := fun he => hi (Fin.ext he.symm)
    have := hu i
    simpa [Vector.getElem_set_ne, hne] using this

theorem decodeRamp_in_range (p : Vector Word 8) (i : Nat) :
    (1 ≤ (decodeRamp p i).rate ∧ (decodeRamp p i).rate ≤ 255) ∧ (decodeRamp p i).level ≤ 255 := by
  simp only [decodeRamp, atMost]
  omega

/-- Each of four that satisfies a predicate. -/
theorem forall_four {α : Type} {P : α → Prop} {a b c d : α} (ha : P a) (hb : P b) (hc : P c) (hd : P d) (i : Fin 4) :
    P #v[a, b, c, d][i] := by
  match i with
  | 0 => exact ha
  | 1 => exact hb
  | 2 => exact hc
  | 3 => exact hd

theorem State.RampsInRange.congr (h : s.RampsInRange) (hk : t.keyer.ramps = s.keyer.ramps)
    (ht : t.title.ramps = s.title.ramps) : t.RampsInRange := by
  unfold State.RampsInRange
  rw [hk, ht]
  exact h

theorem change_keeps_ramps (hc : Change K s t) (h : s.RampsInRange) : t.RampsInRange := by
  have hall := h
  obtain ⟨hu, hrec⟩ := h
  cases hc with
  | disengage st | enter st => exact hall.congr (by simp) (by simp)
  | title f _ hr => exact hall.congr rfl hr
  | countDwell =>
    refine hall.congr rfl ?_
    show s.title.countDwell.ramps = s.title.ramps
    unfold Title.countDwell
    repeat' split
    all_goals rfl
  | adopt =>
    exact ⟨hu, forall_four (P := fun r : RampRecord => (1 ≤ r.rate ∧ r.rate ≤ 255) ∧ r.level ≤ 255) (decodeRamp_in_range _ _) (decodeRamp_in_range _ _) (decodeRamp_in_range _ _)
      (decodeRamp_in_range _ _)⟩
  | fade r target rate ht hr =>
    have hrate : 1 ≤ s.fadeRate r rate ∧ s.fadeRate r rate ≤ 255 := by
      have := (hrec r).1
      unfold State.fadeRate
      split <;> omega
    exact onRamp_keeps_ramps hall fun h => Ramp.fade_in_range h ht hrate
  | cut r level hl => exact onRamp_keeps_ramps hall fun h => Ramp.cut_in_range h hl
  | stepRamps =>
    exact ⟨forall_four (Ramp.step_in_range (hu 0)) (Ramp.step_in_range (hu 1)) (Ramp.step_in_range (hu 2))
      (Ramp.step_in_range (hu 3)), hrec⟩
  | primeRamps =>
    exact ⟨forall_four (Ramp.prime_in_range (hu 0) (hrec 0).2) (Ramp.prime_in_range (hu 1) (hrec 1).2)
      (Ramp.prime_in_range (hu 2) (hrec 2).2) (Ramp.prime_in_range (hu 3) (hrec 3).2), hrec⟩
  | keyer f hr => exact hall.congr hr rfl
  | busReset =>
    refine ⟨fun i => ?_, fun i => ?_⟩
    · show ((Vector.replicate 4 Ramp.reset)[i]).InRange
      simpa using Ramp.reset_in_range
    · show (1 ≤ ((Vector.replicate 4 RampRecord.reset)[i]).rate ∧ _) ∧ _
      simp [State.busReset, Title.reset, RampRecord.reset]
  | activate i | deactivate => exact hall.congr (by simp) rfl
  | _ => exact hall.congr (by simp [State.writeLoop, State.slewRecord]) (by simp [State.writeLoop, State.slewRecord])

theorem powerReset_ramps (b : BitVec 4) (d : BitVec 2) (st : Standard) (csync cue : Level) (held breset : Bool) (n : Nat)
    (q : List Instr) : (State.powerReset b d st csync cue held breset n q).RampsInRange := by
  refine ⟨fun i => ?_, fun i => ?_⟩
  · show ((Vector.replicate 4 Ramp.reset)[i]).InRange
    simpa using Ramp.reset_in_range
  · simp [State.powerReset, Title.reset, RampRecord.reset]

/-! ### The title chain -/

theorem State.ChainInRange.congr (h : s.ChainInRange) (ha : t.title.active = s.title.active)
    (hr : t.title.remaining = s.title.remaining) (hs : t.title.sets = s.title.sets) : t.ChainInRange := by
  unfold State.ChainInRange
  rw [ha, hr, hs]
  exact h

theorem decodeSet_dwell_mem (p : Vector Word 256) (i : Nat) : 1 ≤ (decodeSet p i).dwell ∧ (decodeSet p i).dwell ≤ 65535 := by
  have h := (wordAt p (i + 2)).isLt
  simp only [decodeSet, numAt]
  omega

/-- The dwell of an active set goes down, and nothing else of the chain moves but the mark (R102). -/
theorem Title.countDwell_frame (u : Title) :
    u.countDwell.active = u.active ∧ u.countDwell.sets = u.sets ∧ u.countDwell.remaining ≤ u.remaining ∧
      (u.active = none → u.countDwell.remaining = u.remaining) := by
  unfold Title.countDwell
  split
  · exact ⟨rfl, rfl, le_rfl, fun _ => rfl⟩
  next hi =>
    split
    · exact ⟨rfl, rfl, Nat.sub_le _ _, by simp [hi]⟩
    · exact ⟨rfl, rfl, le_rfl, fun _ => rfl⟩

theorem change_keeps_chain (hc : Change K s t) (h : s.ChainInRange) : t.ChainInRange := by
  have hall := h
  obtain ⟨hnone, hrem, hsets⟩ := h
  cases hc with
  | disengage st | enter st => exact hall.congr (by simp) (by simp) (by simp)
  | title f hs _ ha hr => exact hall.congr ha hr hs
  | activate i => exact ⟨by simp [State.activate], (hsets i).2, hsets⟩
  | deactivate => exact ⟨fun _ => rfl, Nat.zero_le _, hsets⟩
  | countDwell =>
    obtain ⟨ha, hs, hr, hr'⟩ := s.title.countDwell_frame
    refine ⟨fun he => ?_, hr.trans hrem, fun i => ?_⟩
    · have he' : s.title.active = none := ha ▸ he
      exact (hr' he').trans (hnone he')
    · simpa [hs] using hsets i
  | adopt =>
    exact ⟨hnone, hrem, forall_four (P := fun w : WindowSet => 1 ≤ w.dwell ∧ w.dwell ≤ 65535) (decodeSet_dwell_mem _ _)
      (decodeSet_dwell_mem _ _) (decodeSet_dwell_mem _ _) (decodeSet_dwell_mem _ _)⟩
  | busReset =>
    refine ⟨fun _ => rfl, Nat.zero_le _, fun i => ?_⟩
    simp [State.busReset, Title.reset, WindowSet.reset]
  | _ => exact hall.congr (by simp [State.writeLoop, State.slewRecord]) (by simp [State.writeLoop, State.slewRecord]) (by simp [State.writeLoop, State.slewRecord])

theorem powerReset_chain (b : BitVec 4) (d : BitVec 2) (st : Standard) (csync cue : Level) (held breset : Bool) (n : Nat)
    (q : List Instr) : (State.powerReset b d st csync cue held breset n q).ChainInRange := by
  simp [State.ChainInRange, State.powerReset, Title.reset, WindowSet.reset]

/-- Settles O55: every elementary change keeps each of the four. -/
theorem countersStayInRange : Obligations.CountersStayInRange :=
  fun _ _ h => ⟨fun hs => step_keeps powerReset_raster (fun _ _ => change_keeps_raster) hs h,
    fun hs => step_keeps powerReset_counter (fun _ _ => change_keeps_counter) hs h,
    fun hs => step_keeps powerReset_ramps (fun _ _ => change_keeps_ramps) hs h,
    fun hs => step_keeps powerReset_chain (fun _ _ => change_keeps_chain) hs h⟩

end Sys2Proof.Machine
end

section
/-! The output pins, the reset state, and what the pending set, the live image and the structural setup keep. -/

namespace Sys2Proof.Machine

variable {K : Special → Prop} {s t : State}

/-! ### The output pins -/

/-- Two words have a common mark exactly where their conjunction is not 0 (R175). -/
theorem and_ne_zero_iff (a b : Word) :
    ((a &&& b) != 0) = true ↔ ∃ n, n < 16 ∧ bit a n = true ∧ bit b n = true := by
  rw [bne_iff_ne, ne_eq, show (0 : Word) = 0#16 from rfl, BitVec.zero_iff_eq_false]
  simp only [BitVec.getLsbD_and, not_forall, Bool.not_eq_false, Bool.and_eq_true, bit]
  exact ⟨fun ⟨n, ha, hb⟩ => ⟨n, BitVec.lt_of_getLsbD ha, ha, hb⟩, fun ⟨n, _, ha, hb⟩ => ⟨n, ha, hb⟩⟩

/-- The accumulator's top bit tells whether it holds 2^23 or more (R63). -/
theorem getLsbD_23_iff (a : BitVec 24) : a.getLsbD 23 = true ↔ 8388608 ≤ a.toNat := by
  rw [← BitVec.msb_eq_getLsbD_last (w := 24) (x := a), BitVec.msb_eq_decide, decide_eq_true_eq]

/-- Pins that follow the state are true (R63, R120, R121, R175). -/
theorem State.drive_pinsTrue (s : State) : s.drive.PinsTrue := by
  refine ⟨and_ne_zero_iff _ _, fun h => ?_, fun ⟨h1, h2, h3⟩ => ?_, getLsbD_23_iff _⟩
  · have hr : s.restricted = true := by
      simp only [State.restricted, State.keyPermitted, Bool.or_eq_true, Bool.not_eq_true', or_assoc]
      exact h
    simp [State.drive, State.pinsOf, hr]
  · have hr : s.restricted = false := by
      simp only [State.restricted, State.keyPermitted, Bool.or_eq_false_iff, Bool.not_eq_false', and_assoc]
      exact ⟨h1, h2, h3⟩
    simp [State.drive, State.pinsOf, hr]

/-- The pins speak of the attention unit, the keyer, the loop's state and its key-permitted mask, and the accumulator. -/
theorem State.PinsTrue.congr (h : s.PinsTrue) (hp : t.pins = s.pins) (ha : t.att = s.att) (hk : t.keyer = s.keyer)
    (hs : t.setup = s.setup) (hl : t.loop = s.loop) (hy : t.synth = s.synth) : t.PinsTrue := by
  unfold State.PinsTrue
  rw [hp, ha, hk, hs, hl, hy]
  exact h

/-- What is left of a row while RESET# is held moves nothing that the pins show (log 10). -/
theorem heldEffect_keeps_pins (c : Instr) (h : s.PinsTrue) : (heldEffect c s).PinsTrue := by
  cases c <;> refine h.congr ?_ ?_ ?_ ?_ ?_ ?_ <;> simp [heldEffect]

theorem powerReset_pins (b : BitVec 4) (d : BitVec 2) (st : Standard) (csync cue : Level) (held breset : Bool) (n : Nat)
    (q : List Instr) : (State.powerReset b d st csync cue held breset n q).PinsTrue := by
  simp [State.PinsTrue, State.powerReset, Pins.reset, Attention.reset, Keyer.reset, KeyCell.programme, Synth.reset, bit]

theorem exec_keeps_pins {c : Instr} (hs : s.PinsTrue) (h : exec c s = .next t) : t.PinsTrue := by
  obtain ⟨b, d, st, -, rfl⟩ | ⟨-, rfl⟩ | ⟨-, -, rfl⟩ | ⟨-, -, rfl⟩ := exec_next h
  · exact powerReset_pins ..
  · split
    · exact State.drive_pinsTrue _
    · exact hs
  · exact heldEffect_keeps_pins c hs
  · exact State.drive_pinsTrue _

/-- Settles O56: every row ends by driving the pins, or moves nothing that they show. -/
theorem pinsShowTheState : Obligations.PinsShowTheState := by
  intro s t hs h
  unfold step at h
  split at h
  · obtain rfl := Host.Outcome.next.inj h
    obtain hi | ⟨i, n, hi⟩ | ⟨-, hi⟩ := idle_cases s
    · rwa [hi]
    · rw [hi]
      exact hs.congr rfl rfl rfl rfl rfl rfl
    · rw [hi]
      exact State.drive_pinsTrue _
  next i rest _ =>
    have hq : (s.setPending rest).PinsTrue := hs.congr rfl rfl rfl rfl rfl rfl
    exact exec_keeps_pins hq h

/-! ### The reset state -/

/-- Settles O57: the state after reset is one that a power reset gives. -/
theorem resetMeetsTheInvariants : Obligations.ResetMeetsTheInvariants := by
  intro b d st csync cue held breset n q s hs
  have h (b d st csync cue held breset n q) : (State.powerReset b d st csync cue held breset n q).QueuesBounded ∧
      (State.powerReset b d st csync cue held breset n q).LinesNumbered ∧
      (State.powerReset b d st csync cue held breset n q).RatesInRange ∧
      (State.powerReset b d st csync cue held breset n q).SlewCanStop ∧
      (State.powerReset b d st csync cue held breset n q).RasterInRange ∧
      (State.powerReset b d st csync cue held breset n q).CounterInRange ∧
      (State.powerReset b d st csync cue held breset n q).RampsInRange ∧
      (State.powerReset b d st csync cue held breset n q).ChainInRange ∧
      (State.powerReset b d st csync cue held breset n q).PinsTrue :=
    ⟨powerReset_queues .., powerReset_lines .., powerReset_rates .., powerReset_slew .., powerReset_raster ..,
      powerReset_counter .., powerReset_ramps .., powerReset_chain .., powerReset_pins ..⟩
  obtain rfl | rfl := hs
  · exact h ..
  · exact h ..

/-! ### The pending set -/

/-- A mark once in the pending set stays under every change but ACK's and the reset's (R172). -/
theorem change_keeps_cause {n : Nat} (hc : Change (· = .adopting) s t) (h : s.att.causes.getLsbD n = true) :
    t.att.causes.getLsbD n = true := by
  cases hc with
  | raise c => simp [State.raise, h]
  | att f hf => rwa [State.onAtt_att, hf]
  | ack hK => cases hK
  | busReset hK => cases hK
  | _ => simpa [State.slewRecord, State.writeLoop] using h

theorem moves_keep_cause {n : Nat} (hm : Moves (· = .adopting) s t) (h : s.att.causes.getLsbD n = true) :
    t.att.causes.getLsbD n = true := by
  induction hm with
  | refl => exact h
  | tail _ hc ih => exact change_keeps_cause hc ih

/-- Settles O59: with no ACK in sight every row is made of changes that keep a mark. -/
theorem causesStay : Obligations.CausesStay := by
  intro c n s t hq hack hbus hpower h hn
  obtain ⟨b, d, st, hc, -⟩ | ⟨-, ht⟩ | ⟨-, -, ht⟩ | ⟨-, -, ht⟩ := exec_next h
  · exact absurd hc (hpower b d st)
  · have hm : Moves (· = .adopting) s t := by
      rw [ht]
      exact .ite (fun _ => releaseReset_moves.trans drive_moves) fun _ => .refl
    exact moves_keep_cause hm hn
  · exact moves_keep_cause (ht ▸ heldEffect_moves c) hn
  · have hq' : ∀ k ∈ s.caughtUp.bus.queue, k.code = 0x40 → Special.acking = .adopting := fun k hk he =>
      absurd he (hq k (by simpa using hk))
    have he : Moves (· = .adopting) s.caughtUp (effect c s.caughtUp) :=
      effect_moves c hq' (fun small arg he => absurd he (hack small arg)) (fun he => absurd he hbus) fun _ _ => rfl
    exact moves_keep_cause (ht ▸ (caughtUp_moves.trans he).trans drive_moves) hn

end Sys2Proof.Machine
end

section
/-! The live image changes by adoption and the resets alone, and the structural setup by a CPU write in OFF alone. -/

namespace Sys2Proof.Machine

variable {s t : State}

/-! ### The live image -/

/-- The live window sets, ramp records and cue table. -/
abbrev State.liveImage (s : State) : Vector WindowSet 4 × Vector RampRecord 4 × Vector Cue 40 × Nat :=
  (s.title.sets, s.title.ramps, s.cue.entries, s.cue.count)

theorem countDwell_image (t : Title) : t.countDwell.sets = t.sets ∧ t.countDwell.ramps = t.ramps := by
  unfold Title.countDwell
  split
  · exact ⟨rfl, rfl⟩
  · split <;> exact ⟨rfl, rfl⟩

/-- Every change but an adoption and a reset leaves the live image (R98, R136). -/
theorem change_keeps_image (hc : Change (· = .acking) s t) : t.liveImage = s.liveImage := by
  cases hc with
  | title f hs hr _ _ => simp [State.liveImage, hs, hr]
  | cue f hn he _ _ => simp [State.liveImage, hn, he]
  | adopt h => cases h
  | adoptCues h => cases h
  | busReset h => cases h
  | countDwell => simp [State.liveImage, countDwell_image]
  | _ =>
    simp [State.liveImage, State.slewRecord, State.writeLoop, State.activate, State.deactivate,
      CueUnit.countAt, State.fitCounter]

theorem moves_keep_image (hm : Moves (· = .acking) s t) : t.liveImage = s.liveImage := by
  induction hm with
  | refl => rfl
  | tail _ hc ih => exact (change_keeps_image hc).trans ih

theorem advanceChain_adoptRequest (s : State) : s.advanceChain.title.adoptRequest = s.title.adoptRequest := by
  unfold State.advanceChain
  split
  · rfl
  · split <;> simp [State.activate, State.deactivate]

/-- What is owed leaves a request for adoption (R98). -/
theorem caughtUp_adoptRequest (s : State) : s.caughtUp.title.adoptRequest = s.title.adoptRequest := by
  simp only [State.caughtUp, State.expireHoldover_frame]
  unfold State.expireDwell
  split
  · exact advanceChain_adoptRequest s
  · rfl

/-- A row other than the resets leaves the live image, where it is no local field start with an adoption asked for. -/
theorem exec_keeps_image {c : Instr} (hpower : ∀ b d st, c ≠ .powerReset b d st) (hbus : c ≠ .busReset)
    (hadopt : c = .localFieldStart → s.title.adoptRequest = false) (h : exec c s = .next t) :
    t.liveImage = s.liveImage := by
  obtain ⟨b, d, st, hc, -⟩ | ⟨-, ht⟩ | ⟨-, -, ht⟩ | ⟨-, -, ht⟩ := exec_next h
  · exact absurd hc (hpower b d st)
  · have hm : Moves (· = .acking) s t := by
      rw [ht]
      exact .ite (fun _ => releaseReset_moves.trans drive_moves) fun _ => .refl
    exact moves_keep_image hm
  · exact moves_keep_image (ht ▸ heldEffect_moves c)
  · have he : Moves (· = .acking) s.caughtUp (effect c s.caughtUp) :=
      effect_moves c (fun _ _ _ => rfl) (fun _ _ _ => rfl) (fun he => absurd he hbus) fun hc ha => by
        rw [caughtUp_adoptRequest, hadopt hc] at ha
        cases ha
    exact moves_keep_image (ht ▸ (caughtUp_moves.trans he).trans drive_moves)

/-! ### The setup -/

/-- The rows of a CPU write. -/
abbrev IsWrite (c : Instr) : Prop :=
  ∃ a w l, c = .capturedWrite a w l ∨ c = .structuralSetupWrite a w l ∨ c = .fieldCounterModeWrite a w l ∨
    c = .enableMaskWrite a w l

theorem Command.judge_setup (c : Command) (u : State) : (c.judge u).2.setup = u.setup := by simp

theorem takeCommand_setup {judge : State → Verdict × State} (hj : ∀ u, (judge u).2.setup = u.setup) (c : Command)
    (rest : List Command) (s : State) : (s.takeCommand judge c rest).setup = s.setup := by
  rw [State.takeCommand_eq]
  simp [hj]

theorem deliverInTurn_setup {judge : State → Verdict × State} (hj : ∀ u, (judge u).2.setup = u.setup) (c : Command)
    (s : State) : (s.deliverInTurn judge c).setup = s.setup := by
  unfold State.deliverInTurn
  split
  · obtain h | ⟨-, h⟩ | ⟨q, -, h⟩ := State.deliver_cases judge c (s.serveUntil (fun h => h == c) s.bus.queue)
    · simp [h]
    · simp [h]
    · simp [h, takeCommand_setup hj]
  · rfl

/-- A row that is no CPU write leaves the setup. -/
theorem effect_setup {c : Instr} (hc : ¬ IsWrite c) (s : State) : (effect c s).setup = s.setup := by
  cases c with
  | engage small arg => exact deliverInTurn_setup (Command.judge_setup ⟨0x01, small, arg⟩) _ s
  | release small arg => exact deliverInTurn_setup (Command.judge_setup ⟨0x02, small, arg⟩) _ s
  | freeze small arg => exact deliverInTurn_setup (Command.judge_setup ⟨0x03, small, arg⟩) _ s
  | resume small arg => exact deliverInTurn_setup (Command.judge_setup ⟨0x04, small, arg⟩) _ s
  | adopt small arg => exact deliverInTurn_setup (Command.judge_setup ⟨0x08, small, arg⟩) _ s
  | showSet small arg => exact deliverInTurn_setup (Command.judge_setup ⟨0x10, small, arg⟩) _ s
  | stop small arg => exact deliverInTurn_setup (Command.judge_setup ⟨0x11, small, arg⟩) _ s
  | advance small arg => exact deliverInTurn_setup (Command.judge_setup ⟨0x12, small, arg⟩) _ s
  | fade small arg => exact deliverInTurn_setup (Command.judge_setup ⟨0x20, small, arg⟩) _ s
  | cut small arg => exact deliverInTurn_setup (Command.judge_setup ⟨0x21, small, arg⟩) _ s
  | countSet small arg => exact deliverInTurn_setup (Command.judge_setup ⟨0x30, small, arg⟩) _ s
  | ack small arg => exact deliverInTurn_setup (Command.judge_setup ⟨0x40, small, arg⟩) _ s
  | unknownCommand code small arg =>
    simp only [effect]
    split
    · rfl
    · exact deliverInTurn_setup (fun _ => rfl) _ s
  | capturedWrite a w l => exact absurd ⟨a, w, l, .inl rfl⟩ hc
  | structuralSetupWrite a w l => exact absurd ⟨a, w, l, .inr (.inl rfl)⟩ hc
  | fieldCounterModeWrite a w l => exact absurd ⟨a, w, l, .inr (.inr (.inl rfl))⟩ hc
  | enableMaskWrite a w l => exact absurd ⟨a, w, l, .inr (.inr (.inr rfl))⟩ hc
  | _ => simp [effect]

theorem heldEffect_setup (c : Instr) (s : State) : (heldEffect c s).setup = s.setup := by
  cases c <;> simp [heldEffect]

theorem exec_setup {c : Instr} (hpower : ∀ b d st, c ≠ .powerReset b d st) (hc : ¬ IsWrite c)
    (h : exec c s = .next t) : t.setup = s.setup := by
  obtain ⟨b, d, st, he, -⟩ | ⟨-, rfl⟩ | ⟨-, -, rfl⟩ | ⟨-, -, rfl⟩ := exec_next h
  · exact absurd he (hpower b d st)
  · split <;> simp [State.releaseReset]
  · exact heldEffect_setup c s
  · simp [effect_setup hc]

/-- Outside OFF a CPU write leaves every structural word (R48, R50). -/
theorem capturePlace_structural (h : s.loop.state ≠ .off) (o : Nat) (w : Word) (l : Lanes) {i : Nat} (hi : i < 12) :
    wordAt (s.capturePlace (placeOf o) w l).setup.loop i = wordAt s.setup.loop i := by
  have hlive := (placeOf_mem o).1
  unfold State.capturePlace
  split
  next => simp [State.writeStructural, h]
  next j hj =>
    have := hlive j hj
    simp only [State.writeLoop, State.onSetup_setup]
    exact wordAt_writeAt_ne _ (by omega) w l
  next => simp only [State.fitCounter_frame, State.writeAux, State.onSetup_setup]; split <;> simp
  next => simp only [State.writeAux, State.onSetup_setup]; split <;> simp
  all_goals
    simp [State.writeRampRecord, State.writeEnable, State.writeWindowSet, State.writeCueTable, State.writeArg]

theorem cpuWrite_structural (h : s.loop.state ≠ .off) (a : Addr) (w : Word) (l : Lanes) {i : Nat} (hi : i < 12) :
    wordAt (s.cpuWrite a w l).setup.loop i = wordAt s.setup.loop i := by
  unfold State.cpuWrite
  dsimp only
  split
  · simp
  · split
    · rw [capturePlace_structural (by simpa using h) _ w l hi]
      simp
    · simp

/-- Outside OFF, with nothing owed and nothing to deliver, no row touches a structural word (R48). -/
theorem exec_structural {c : Instr} (hpower : ∀ b d st, c ≠ .powerReset b d st) (hr : s.Ready)
    (hoff : s.loop.state ≠ .off) (h : exec c s = .next t) {i : Nat} (hi : i < 12) :
    wordAt t.setup.loop i = wordAt s.setup.loop i := by
  by_cases hc : IsWrite c
  · obtain ⟨a, w, l, hc⟩ := hc
    have hev : IsEvent c := by obtain rfl | rfl | rfl | rfl := hc <;> simp [IsEvent]
    have he : effect c s = s.cpuWrite a w l := by
      obtain rfl | rfl | rfl | rfl := hc <;> simp only [effect, State.serve_of_headWaits hr.2]
    rw [exec_unowed hev hr.1, he] at h
    obtain rfl := Host.Outcome.next.inj h
    simpa using cpuWrite_structural hoff a w l hi
  · rw [exec_setup hpower hc h]

/-- Settles O60: only an adoption or a reset is a change of the live image, and a write outside OFF is raised as late. -/
theorem whatOnlyAdoptionAndOffChange : Obligations.WhatOnlyAdoptionAndOffChange := by
  intro c s t hpower h
  refine ⟨fun hbus hfield => exec_keeps_image hpower hbus (fun hc => absurd hc hfield) h,
    fun hc hadopt => exec_keeps_image hpower (by simp [hc]) (fun _ => hadopt) h, fun hc i => ?_,
    fun hr hoff i => exec_structural hpower hr hoff h i.isLt⟩
  have hw : ¬ IsWrite c := by
    rintro ⟨a, w, l, hw⟩
    obtain ⟨h1, h2, h3, h4⟩ := hc a w l
    exact hw.elim h1 (·.elim h2 (·.elim h3 h4))
  rw [exec_setup hpower hw h]

end Sys2Proof.Machine
end

section
/-! The transitions of the loop state (section 2.9), operation by operation. -/

namespace Sys2Proof.Machine

variable {s t u : State} {l : List (LoopState × LoopState)}

/-! ### Transitions among those of a list -/

/-- The loop state is left as it is, or changed by one of the transitions listed. -/
def State.Shifts (l : List (LoopState × LoopState)) (s t : State) : Prop :=
  t.loop.state = s.loop.state ∨ (s.loop.state, t.loop.state) ∈ l

theorem State.Shifts.after (h : t.Shifts l u) (hs : t.loop.state = s.loop.state) : s.Shifts l u := by
  unfold State.Shifts at *
  rwa [← hs]

theorem State.Shifts.then (h : s.Shifts l t) (hs : u.loop.state = t.loop.state) : s.Shifts l u := by
  unfold State.Shifts at *
  rwa [hs]

theorem State.Shifts.raise (h : s.Shifts l t) (c : Cause) : s.Shifts l (t.raise c) := h.then (by simp)

theorem State.enter_shifts {st : LoopState} (h : (s.loop.state, st) ∈ l) : s.Shifts l (s.enter st) := by
  unfold State.Shifts
  rw [State.enter_state]
  exact .inr h

theorem State.Shifts.ite {c : Prop} [Decidable c] (h1 : c → s.Shifts l t) (h2 : ¬ c → s.Shifts l u) :
    s.Shifts l (if c then t else u) := by
  split
  · exact h1 ‹_›
  · exact h2 ‹_›

/-! ### The line loop -/

/-- Whatever value F takes, the loop's state stays. -/
theorem onLoop_freq_state (n : Nat) (s : State) :
    (s.onLoop fun l => { l with freq := n }).loop.state = s.loop.state ∧
      ∀ e, (s.onLoop fun l => { l with freq := n, lastE := e }).loop.state = s.loop.state := ⟨rfl, fun _ => rfl⟩

theorem update_state (e : Int) (s : State) : (s.update e).loop.state = s.loop.state := by
  unfold State.update
  simp only [State.onAccum_frame, State.handInc_loop]
  exact (onLoop_freq_state (s.nextFreq e) s).2 e

theorem closeLine_state (t : Time) (s : State) : (s.closeLine t).loop.state = s.loop.state := by
  obtain ⟨-, -, -, -, h, -⟩ := State.closeLine_frame' t s
  exact h

theorem closePassed_state (n : Nat) (s : State) : (s.closePassed n).loop.state = s.loop.state := by
  induction n generalizing s with
  | zero => rfl
  | succ n ih =>
    unfold State.closePassed
    split
    · rw [ih, closeLine_state]
    · rfl

theorem closeIfDue_state (s : State) : s.closeIfDue.loop.state = s.loop.state := by
  unfold State.closeIfDue
  split
  · exact closeLine_state _ s
  · rfl

/-- The transitions on a record (R36, R37, R39, R44). -/
abbrev recordShifts : List (LoopState × LoopState) := [(.pull, .locked), (.locked, .pull), (.coast, .pull)]

theorem moveLock_shifts (h : s.loop.state = .pull) (e : Int) : s.Shifts recordShifts (s.moveLock e) := by
  unfold State.moveLock
  dsimp only
  refine .ite (fun _ => ?_) fun _ => .inl rfl
  exact ((State.enter_shifts (by simp [h])).after rfl).raise _

theorem moveUnlock_shifts (h : s.loop.state = .locked) (e : Int) : s.Shifts recordShifts (s.moveUnlock e) := by
  unfold State.moveUnlock
  dsimp only
  refine .ite (fun _ => ?_) fun _ => .inl rfl
  exact (State.enter_shifts (by simp [h])).after rfl

theorem moveReturn_shifts (h : s.loop.state = .coast) : s.Shifts recordShifts s.moveReturn := by
  unfold State.moveReturn
  dsimp only
  refine .ite (fun _ => .ite (fun _ => .ite (fun _ => ?_) fun _ => .inl rfl) fun _ => ?_) fun _ => .inl rfl
  · exact (State.enter_shifts (by simp [h])).after rfl
  · exact (State.enter_shifts (by simp [h])).after rfl

theorem settleEdge_shifts (t : Time) (s : State) : s.Shifts recordShifts (s.settleEdge t) := by
  unfold State.settleEdge
  dsimp only
  split
  next h => exact (moveLock_shifts (by rw [update_state, h]) _).after (update_state _ s)
  next h => exact (moveUnlock_shifts (by rw [update_state]; exact h) _).after (update_state _ _)
  next h => exact moveReturn_shifts h
  · exact .inl rfl

theorem clearMissed_state (s : State) : s.clearMissed.loop.state = s.loop.state := by
  unfold State.clearMissed
  split <;> simp

theorem takeInterval_state (t : Time) (n : Nat) (s : State) : (s.takeInterval t n).loop.state = s.loop.state := by
  unfold State.takeInterval
  split <;> simp

theorem takeEdge_state (t : Time) (n : Nat) (s : State) : (s.takeEdge t n).loop.state = s.loop.state := rfl

theorem acceptEdge_shifts (t : Time) (o : OpenLine) (s : State) : s.Shifts recordShifts (s.acceptEdge t o) := by
  unfold State.acceptEdge
  dsimp only
  refine (settleEdge_shifts t _).after ?_
  split <;> simp [closeLine_state, clearMissed_state, takeEdge_state, takeInterval_state]

theorem addCandidate_shifts (h : s.loop.state = .locked) (t : Time) (off : Int) (n : Nat) :
    s.Shifts recordShifts (s.addCandidate t off n) := by
  unfold State.addCandidate
  dsimp only
  refine .ite (fun _ => ?_) fun _ => .inl (by simp [Loop.onLine])
  unfold State.rephase
  refine State.Shifts.raise ((State.enter_shifts ?_).after ?_) _ <;> simp [Loop.onLine, Loop.rebase, h]

theorem judgeRecord_shifts (p : Pulse) (o : OpenLine) (s : State) : s.Shifts recordShifts (s.judgeRecord p o) := by
  unfold State.judgeRecord
  split
  · exact .inl rfl
  · exact .inl rfl
  · refine .ite (fun _ => .inl rfl) fun _ => .ite (fun _ => ?_) fun _ => .ite (fun _ => ?_) fun _ => .inl rfl
    · unfold State.normalEdge
      split <;> first | exact acceptEdge_shifts _ _ s | exact .inl rfl
    · unfold State.wideEdge
      split
      · exact acceptEdge_shifts _ _ s
      · exact acceptEdge_shifts _ _ s
      next h => exact addCandidate_shifts h _ _ _
      · exact .inl rfl

theorem seekRecord_state (p : Pulse) (s : State) : (s.seekRecord p).loop.state = s.loop.state := by
  unfold State.seekRecord
  split
  · rfl
  · rfl
  · split <;> rfl

theorem takeHead_shifts (s : State) : s.Shifts recordShifts s.takeHead := by
  unfold State.takeHead
  split
  · exact .inl rfl
  next p rest _ =>
    refine .ite (fun _ => .inl rfl) fun _ => ?_
    refine State.Shifts.after (t := s.onFront fun f => { f with queue := rest }) ?_ rfl
    unfold State.takeRecord
    split
    · exact .inl rfl
    · exact .inl (seekRecord_state p _)
    · split
      · exact .inl rfl
      · exact judgeRecord_shifts p _ _

/-- The transitions on a line that settles (R38). -/
abbrev settleShifts : List (LoopState × LoopState) := [(.pull, .coast), (.locked, .coast)]

theorem countMissed_shifts (s : State) : s.Shifts settleShifts s.countMissed := by
  unfold State.countMissed
  split
  next h => exact .ite (fun _ => (State.enter_shifts (by simp [h])).after rfl) fun _ => .inl rfl
  next h => exact .ite (fun _ => (State.enter_shifts (by simp [h])).after rfl) fun _ => .inl rfl
  · exact .inl rfl
  · exact .inl rfl

theorem settleIfDue_shifts (s : State) : s.Shifts settleShifts s.settleIfDue := by
  unfold State.settleIfDue
  split
  · unfold State.settleAs
    split
    · exact .inl rfl
    · exact .inl rfl
    · exact .inl rfl
    · exact (countMissed_shifts _).after rfl
  · exact .inl rfl

theorem completeSeek_shifts (h : s.loop.seek.inFlight = true → s.loop.state = .seek) :
    s.Shifts [(.seek, .pull)] s.completeSeek := by
  unfold State.completeSeek
  refine .ite (fun hd => .ite (fun _ => ?_) fun _ => .inl rfl) fun _ => .inl rfl
  have hs : s.loop.state = .seek := h (by simp only [State.seekDue, Bool.and_eq_true] at hd; exact hd.1)
  refine .inr ?_
  rw [hs]
  unfold State.acceptSeek
  simp [closePassed_state, Loop.engage, State.enter_state]

/-! ### The frame aligner -/

theorem frameCheck_shifts (s : State) : s.Shifts [(.locked, .slew)] s.frameCheck := by
  unfold State.frameCheck
  refine .ite (fun hm => .ite (fun _ => .inl rfl) fun _ => .ite (fun _ => .inl rfl) fun _ => ?_) fun _ => .inl rfl
  have hl : s.loop.state = .locked := by
    simp only [State.checkMade, Bool.and_eq_true, beq_iff_eq] at hm
    exact hm.1.1
  exact (State.enter_shifts (by simp [hl])).after rfl

theorem fieldStart_shifts (t : Time) (s : State) : s.Shifts [(.locked, .slew)] (s.fieldStart t) := by
  unfold State.fieldStart
  refine .ite (fun _ => .ite (fun _ => ?_) fun _ => .inl (by simp)) fun _ => .inl (by simp)
  exact (frameCheck_shifts _).after (by simp)

theorem completePulse_shifts (p : Pulse) (s : State) : s.Shifts [(.locked, .slew)] (s.completePulse p) := by
  unfold State.completePulse
  refine State.Shifts.then (t := s.detect p) ?_ (by simp)
  unfold State.detect
  refine .ite (fun _ => ?_) fun _ => .inl rfl
  refine State.Shifts.then (t := if 6 ≤ s.front.runCount then s.fieldStart p.lead else s) ?_ rfl
  exact .ite (fun _ => fieldStart_shifts _ s) fun _ => .inl rfl

theorem csyncRise_shifts (s : State) : s.Shifts [(.locked, .slew)] s.csyncRise := by
  unfold State.csyncRise
  split
  · split
    · exact (completePulse_shifts _ _).after rfl
    · exact .inl rfl
  · exact .inl rfl

theorem saturate_shifts (s : State) : s.Shifts [(.locked, .slew)] s.saturate := by
  unfold State.saturate
  split
  · exact .ite (fun _ => (completePulse_shifts _ _).after rfl) fun _ => .inl rfl
  · exact .inl rfl

/-- The transitions at the end of a slew (R41, R87). -/
abbrev slewShifts : List (LoopState × LoopState) := [(.slew, .pull), (.slew, .coast), (.slew, .off)]

theorem slewLine_shifts (s : State) : s.Shifts slewShifts s.slewLine := by
  unfold State.slewLine
  refine .ite (fun hs => ?_) fun _ => .inl rfl
  dsimp only
  generalize hv : (s.onAlign Aligner.slip).handInc (s.onAlign Aligner.slip).slewInc = v
  have hst : v.loop.state = s.loop.state := by
    rw [← hv]
    simp
  refine .ite (fun _ => ?_) fun _ => .inl hst
  refine State.Shifts.raise ((State.enter_shifts ?_).after hst) _
  rw [hst, hs]
  unfold State.afterSlew
  split
  · simp
  · split <;> simp

theorem countSeekLine_state (s : State) : s.countSeekLine.loop.state = s.loop.state := by
  unfold State.countSeekLine
  split <;> rfl

theorem handLineStart_shifts (s : State) : s.Shifts slewShifts s.handLineStart := by
  unfold State.handLineStart
  refine .ite (fun _ => .ite (fun _ => ?_) fun _ => ?_) fun _ => ?_
  · exact (slewLine_shifts _).after (by simp [countSeekLine_state])
  · refine State.Shifts.then (t := s.countSeekLine.tie.2.slewLine) ?_ (by simp)
    exact (slewLine_shifts _).after (by simp [countSeekLine_state])
  · exact (slewLine_shifts _).after (by simp [countSeekLine_state])

theorem lineStart_shifts (s : State) : s.Shifts slewShifts s.lineStart := by
  unfold State.lineStart
  dsimp only
  refine State.Shifts.then (t := State.handLineStart _) ?_ rfl
  refine (handLineStart_shifts _).after ?_
  split <;> simp

theorem carry_shifts (s : State) : s.Shifts slewShifts s.carry := by
  unfold State.carry
  exact .ite (fun _ => lineStart_shifts s) fun _ => .inl rfl

/-! ### Commands -/

theorem judgeEngage_shifts (s : State) : s.Shifts [(.off, .seek)] (judgeEngage s).2 := by
  unfold judgeEngage
  split
  next h => exact State.enter_shifts (by simp [h])
  · exact .inl rfl

theorem judgeRelease_shifts (s : State) :
    s.Shifts [(.seek, .off), (.pull, .off), (.locked, .off), (.coast, .off), (.frozen, .off)] (judgeRelease s).2 := by
  unfold judgeRelease
  split
  · exact .inl rfl
  · exact .inl rfl
  next h => exact State.Shifts.then (State.enter_shifts (by simp [h])) rfl
  next h1 h2 h3 =>
    refine State.enter_shifts ?_
    cases hs : s.loop.state <;> simp_all

theorem judgeFreeze_shifts (s : State) :
    s.Shifts [(.pull, .frozen), (.locked, .frozen), (.coast, .frozen)] (judgeFreeze s).2 := by
  unfold judgeFreeze
  split
  next h => exact State.enter_shifts (by simp [h])
  next h => exact State.enter_shifts (by simp [h])
  next h => exact State.enter_shifts (by simp [h])
  · exact .inl rfl

theorem judgeResume_shifts (s : State) : s.Shifts [(.frozen, .coast)] (judgeResume s).2 := by
  unfold judgeResume
  split
  next h => exact State.enter_shifts (by simp [h])
  · exact .inl rfl

/-- A command that no loop command precedes leaves the loop as its judging does (R166). -/
theorem deliverInTurn_shifts {judge : State → Verdict × State} (hj : ∀ u : State, u.Shifts l (judge u).2) {c : Command}
    (h : s.headWaits = true ∨ ∃ rest, s.bus.queue = c :: rest) : s.Shifts l (s.deliverInTurn judge c) := by
  have htake (rest : List Command) : s.Shifts l (s.takeCommand judge c rest) := by
    rw [State.takeCommand_eq]
    refine State.Shifts.then (t := (judge (s.onBus fun b => { b with queue := rest })).2) ?_ (by simp)
    exact (hj _).after rfl
  unfold State.deliverInTurn
  refine .ite (fun hl => ?_) fun _ => .inl rfl
  have hb : s.bresetHeld = false := by simp [State.listening] at hl; exact hl.2
  have hstop : s.serveUntil (fun k => k == c) s.bus.queue = s := by
    obtain hw | ⟨rest, hq⟩ := h
    · unfold State.headWaits at hw
      cases hq : s.bus.queue with
      | nil => rfl
      | cons k rest =>
        rw [hq] at hw
        simp only [hb, Bool.false_or] at hw
        simp [State.serveUntil, hw]
    · simp [hq, State.serveUntil]
  rw [hstop]
  obtain hd | ⟨-, hd⟩ | ⟨q, -, hd⟩ := State.deliver_cases judge c s
  · exact .inl (by rw [hd])
  · exact .inl (by rw [hd]; rfl)
  · exact hd ▸ htake q

/-- The command whose delivery a row is (section 9.5). -/
def rowCommand : Instr → Option Command
  | .engage small arg => some ⟨0x01, small, arg⟩
  | .release small arg => some ⟨0x02, small, arg⟩
  | .freeze small arg => some ⟨0x03, small, arg⟩
  | .resume small arg => some ⟨0x04, small, arg⟩
  | .adopt small arg => some ⟨0x08, small, arg⟩
  | .showSet small arg => some ⟨0x10, small, arg⟩
  | .stop small arg => some ⟨0x11, small, arg⟩
  | .advance small arg => some ⟨0x12, small, arg⟩
  | .fade small arg => some ⟨0x20, small, arg⟩
  | .cut small arg => some ⟨0x21, small, arg⟩
  | .countSet small arg => some ⟨0x30, small, arg⟩
  | .ack small arg => some ⟨0x40, small, arg⟩
  | .unknownCommand code small arg => some ⟨code, small, arg⟩
  | _ => none

theorem rowCommand_row (k : Command) : rowCommand k.row = some k := by
  obtain ⟨code, small, arg⟩ := k
  have hcode (n : Nat) (h : code.toNat = n) : code = BitVec.ofNat 8 n := by
    rw [← h, BitVec.ofNat_toNat, BitVec.setWidth_eq]
  unfold Command.row
  dsimp only
  split
  all_goals first | rfl | (rename_i h; rw [hcode _ h]; rfl)

/-- Where a row's own command heads the queue, or no queued command can be delivered, the row judges it or nothing. -/
theorem rowCommand_inTurn {c : Instr} {k : Command} (hk : rowCommand c = some k)
    (h : s.headWaits = true ∨ (∃ k rest, s.bus.queue = k :: rest ∧ c = k.row)) :
    s.headWaits = true ∨ ∃ rest, s.bus.queue = k :: rest := by
  obtain h | ⟨k', rest, hq, rfl⟩ := h
  · exact .inl h
  · rw [rowCommand_row] at hk
    obtain rfl := Option.some.inj hk
    exact .inr ⟨rest, hq⟩

/-! ### Rows -/

/-- The transitions a row can make (section 2.9). -/
def transitionsOf : Instr → List (LoopState × LoopState)
  | .engage .. => [(.off, .seek)]
  | .release .. => [(.seek, .off), (.pull, .off), (.locked, .off), (.coast, .off), (.frozen, .off)]
  | .freeze .. => [(.pull, .frozen), (.locked, .frozen), (.coast, .frozen)]
  | .resume .. => [(.frozen, .coast)]
  | .seekComplete => [(.seek, .pull)]
  | .recordTaken => recordShifts
  | .lineSettle _ => settleShifts
  | .acceptedRise _ => [(.locked, .slew)]
  | .pulseSaturation _ => [(.locked, .slew)]
  | .localLineStart _ => slewShifts
  | .synthesiserCarry _ => slewShifts
  | _ => []

theorem row_of_unknown {code : Byte} (h : ¬ knownCode code = true) (small : Byte) (arg : Word) :
    (Command.mk code small arg).row = .unknownCommand code small arg := by
  have hne (n : Nat) (hn : knownCode (BitVec.ofNat 8 n) = true) : code.toNat ≠ n := fun he =>
    h (by rwa [← he, BitVec.ofNat_toNat, BitVec.setWidth_eq] at hn)
  unfold Command.row
  dsimp only
  split
  case h_13 => rfl
  all_goals
    rename_i he
    exact absurd he (hne _ (by decide))

/-- A row that names a command is the row of that command, or has no effect (log 30). -/
theorem rowCommand_spec {c : Instr} {k : Command} (h : rowCommand c = some k) : c = k.row ∨ ∀ s, effect c s = s := by
  cases c with
  | unknownCommand code small arg =>
    obtain rfl := Option.some.inj h
    by_cases hc : knownCode code = true
    · exact .inr fun s => by simp [effect, hc]
    · exact .inl (row_of_unknown hc small arg).symm
  | engage | release | freeze | resume | adopt | showSet | stop | advance | fade | cut | countSet | ack =>
    obtain rfl := Option.some.inj h
    exact .inl rfl
  | _ => cases h

/-- The instant moves on with the loop as it is, where no command is delivered before it. -/
theorem moveOn_loop {now : Time} (h : s.headWaits = true ∨ now = s.timebase) : (s.moveOn now).loop = s.loop := by
  obtain h | rfl := h
  · simp [State.moveOn_of_headWaits now h]
  · simp [State.moveOn_same]

theorem writeStructural_state (i : Nat) (w : Word) (l : Lanes) (s : State) :
    (s.writeStructural i w l).loop.state = s.loop.state := by
  have hrefit (u : State) : u.refitFreq.loop.state = u.loop.state := by
    rw [State.refitFreq_eq, (State.handed_frame _ _).1]
    exact (onLoop_freq_state (u.clampInc u.loop.freq) u).1
  unfold State.writeStructural State.afterStructural
  dsimp only
  repeat' split
  all_goals simp [hrefit]

theorem writeCmd_state (w : Word) (l : Lanes) (s : State) : (s.writeCmd w l).loop.state = s.loop.state := by simp

/-- A CPU write leaves the loop's state. -/
theorem cpuWrite_state (a : Addr) (w : Word) (l : Lanes) (s : State) :
    (s.cpuWrite a w l).loop.state = s.loop.state := by
  unfold State.cpuWrite
  dsimp only
  split
  · simp
  · split
    next o _ =>
      unfold State.capturePlace
      cases placeOf o <;> simp [writeStructural_state, State.writeLoop, State.writeRampRecord, State.writeWindowSet,
        State.writeCueTable, State.writeEnable, State.writeArg]
    · simp

/-- A row, with no command delivered before it, makes one of its own transitions (section 2.9). -/
theorem effect_shifts {c : Instr} (howed : s.loop.holdoverOwed = false)
    (h : s.headWaits = true ∨ (∃ k rest, s.bus.queue = k :: rest ∧ c = k.row) ∨
      (c.servesFirst s.timebase = false ∧ ∀ k : Command, c ≠ k.row))
    (hseek : s.loop.seek.inFlight = true → s.loop.state = .seek) : s.Shifts (transitionsOf c) (effect c s) := by
  have hquiet (hc : rowCommand c = none) : s.headWaits = true ∨ c.servesFirst s.timebase = false := by
    obtain h | ⟨k, rest, -, rfl⟩ | ⟨h, -⟩ := h
    · exact .inl h
    · rw [rowCommand_row] at hc
      cases hc
    · exact .inr h
  have hcommand {judge : State → Verdict × State} {k : Command} (hk : rowCommand c = some k)
      (he : effect c s = s.deliverInTurn judge k) (hj : ∀ u : State, u.Shifts (transitionsOf c) (judge u).2) :
      s.Shifts (transitionsOf c) (effect c s) := by
    obtain h | h | ⟨-, h⟩ := h
    · exact he ▸ deliverInTurn_shifts hj (.inl h)
    · exact he ▸ deliverInTurn_shifts hj (rowCommand_inTurn hk (.inr h))
    · exact .inl (by rw [(rowCommand_spec hk).resolve_left (h k)])
  have hmove {now : Time} (hc : rowCommand c = none) (ht : c.servesFirst s.timebase = (now != s.timebase)) :
      (s.moveOn now).loop.state = s.loop.state := by
    refine congrArg Loop.state (moveOn_loop ((hquiet hc).imp_right fun hs => ?_))
    simpa [ht] using hs
  have hserve (hc : rowCommand c = none) (ht : c.servesFirst s.timebase = true) : s.serve = s :=
    State.serve_of_headWaits ((hquiet hc).resolve_right (by simp [ht]))
  cases c with
  | engage => exact hcommand rfl rfl judgeEngage_shifts
  | release => exact hcommand rfl rfl judgeRelease_shifts
  | freeze => exact hcommand rfl rfl judgeFreeze_shifts
  | resume => exact hcommand rfl rfl judgeResume_shifts
  | adopt => exact hcommand rfl rfl fun _ => .inl rfl
  | showSet => exact hcommand rfl rfl fun _ => .inl (by unfold judgeShow; split <;> rfl)
  | stop => exact hcommand rfl rfl fun _ => .inl rfl
  | advance => exact hcommand rfl rfl fun _ => .inl (by unfold judgeAdvance; split <;> simp)
  | fade => exact hcommand rfl rfl fun _ => .inl (by unfold judgeFade; split <;> simp)
  | cut => exact hcommand rfl rfl fun _ => .inl (by unfold judgeCut; split <;> simp)
  | countSet => exact hcommand rfl rfl fun _ => .inl (by unfold judgeCountSet; dsimp only; split <;> simp)
  | ack => exact hcommand rfl rfl fun _ => .inl (by unfold judgeAck; dsimp only; split <;> simp)
  | unknownCommand code =>
    by_cases hc : knownCode code = true
    · exact .inl (by simp [effect, hc])
    · exact hcommand (judge := judgeUnknown) rfl (by simp [effect, hc]) fun _ => .inl rfl
  | recordTaken => exact takeHead_shifts s
  | seekComplete => exact completeSeek_shifts hseek
  | holdoverExpired => exact .inl (by simp [effect, State.expireHoldover_of_not_owed howed])
  | lineSettle now => exact (settleIfDue_shifts _).after (hmove rfl rfl)
  | acceptedRise now => exact (csyncRise_shifts _).after (hmove rfl rfl)
  | pulseSaturation now => exact (saturate_shifts _).after (hmove rfl rfl)
  | localLineStart now => exact (lineStart_shifts _).after (hmove rfl rfl)
  | synthesiserCarry now => exact (carry_shifts _).after (hmove rfl rfl)
  | lineClose now => exact .inl ((closeIfDue_state _).trans (hmove rfl rfl))
  | acceptedFall now | cuePulse now | cueFallAccepted now | csyncLevelChange now | cueLevelChange now =>
    exact .inl (by simpa [effect] using hmove rfl rfl)
  | capturedWrite | structuralSetupWrite | fieldCounterModeWrite | enableMaskWrite =>
    exact .inl (by simp only [effect, hserve rfl rfl, cpuWrite_state])
  | reportSummaryRead | displayFetch => exact .inl (by simp [effect, hserve rfl rfl])
  | _ => exact .inl (by simp [effect])

theorem State.drive_loop (s : State) : s.drive.loop = s.loop := by simp

/-- Settles O58: with nothing owed and no delivery before it, a row makes one of its own transitions. -/
theorem loopTransitions : Obligations.LoopTransitions := by
  intro c s t howed hturn hseek hpower h hne
  obtain ⟨b, d, st, hc, -⟩ | ⟨-, rfl⟩ | ⟨-, hr, -⟩ | ⟨-, -, rfl⟩ := exec_next h
  · exact absurd hc (hpower b d st)
  · rw [howed.1] at hne
    exact absurd rfl hne
  · rw [howed.1] at hr
    cases hr
  · rw [State.caughtUp_of_unowed howed, State.drive_loop] at hne ⊢
    have hs := (effect_shifts howed.2.2 hturn hseek).resolve_left hne
    generalize (s.loop.state, (effect c s).loop.state) = p at hs ⊢
    clear h hpower hturn hne
    cases c <;> exact hs

end Sys2Proof.Machine
end

section
/-! The step and its frame, the resets, and the glitch filters. -/

namespace Sys2Proof.Machine

variable {s t : State}

/-! ### The step and its frame -/

/-- Settles O1: by the definition of the step. -/
theorem stepRunsFrontCommand : Obligations.StepRunsFrontCommand := fun _ _ _ => rfl

/-- One of several is taken by its number modulo how many there are (log 3). -/
theorem getD_mod_mem {α : Type} (i : α) (rest : List α) (n : Nat) :
    ((i :: rest)[n % (rest.length + 1)]?).getD i ∈ i :: rest := by
  have h : n % (rest.length + 1) < (i :: rest).length := Nat.mod_lt _ (Nat.succ_pos _)
  rw [List.getElem?_eq_getElem h]
  exact List.getElem_mem h

theorem State.queueOne_spec (i : Instr) (rest : List Instr) (s : State) :
    ∃ j ∈ i :: rest, ∃ n, s.queueOne i rest = { s with pending := [j], choices := n } := by
  unfold State.queueOne
  split
  · exact ⟨i, by simp, s.choices, rfl⟩
  · exact ⟨_, getD_mod_mem i rest _, _, rfl⟩

/-- One tick later is the next value of the timebase, and one applied increment more (R63). -/
theorem State.tick_eq (s : State) : s.tick = ({ s with
    timebase := s.timebase + 1
    synth := { s.synth with
      acc := s.synth.acc + BitVec.ofNat 24 s.synth.applied
      carryOwed := decide (2 ^ 24 ≤ s.synth.acc.toNat + s.synth.applied) } } : State).drive := by
  have hone : (s.timebase + 1 - s.timebase).toNat = 1 := by
    rw [add_sub_cancel_left]
    rfl
  unfold State.tick State.advanceTo
  rw [show later s.timebase 1 = s.timebase + 1 from rfl, hone]
  simp only [Nat.one_mul]
  rfl

/-- Settles O2: RESET# held, a step due, and none due. -/
theorem emptyQueueTicks : Obligations.EmptyQueueTicks := by
  intro s hp
  have hstep : step s = .next s.idle := by
    unfold step
    rw [hp]
  rw [hstep]
  unfold State.idle
  refine ⟨fun hr => by rw [if_pos hr], fun hr hdue => ?_, fun hr hdue => ?_⟩
  · rw [if_neg (by simp [hr])]
    split
    next h => exact absurd h hdue
    next i rest h =>
      obtain ⟨j, hj, n, he⟩ := s.queueOne_spec i rest
      exact ⟨j, h ▸ hj, n, by rw [he]⟩
  · rw [if_neg (by simp [hr]), hdue]
    exact congrArg Host.Outcome.next s.tick_eq

/-- Settles O3: what is left of each row while RESET# is held. -/
theorem resetHeldStopsTheBlock : Obligations.ResetHeldStopsTheBlock := by
  intro c s hr hpower hend
  have he : exec c s = .next (heldEffect c s) := by
    rw [exec_eq_eventOr ⟨hpower, hend⟩, eventOr_eq, if_pos hr]
  rw [he]
  cases c with
  | displayFetch a w =>
    obtain ⟨word, lanes, write⟩ := w
    cases write <;> rfl
  | _ => rfl

/-! ### The resets -/

/-- The filter's comparison of a raw level (R1, R153). -/
theorem Filter.compare_eq (raw : Level) (now : Time) (f : Filter) : f.compare raw now = { f with
    run := if raw = f.accepted then none else some (f.run.getD now)
    hold := if raw = f.accepted ∨ f.run = none then none else f.hold } := by
  unfold Filter.compare
  by_cases h : raw = f.accepted
  · simp [h]
  · cases hr : f.run <;> simp [h]

/-- Settles O7: the release of RESET#, and the row without RESET# held. -/
theorem powerResetEnds : Obligations.PowerResetEnds := by
  intro s
  constructor
  · intro hr
    show Host.Outcome.next _ = _
    rw [if_pos hr]
    unfold State.releaseReset
    simp only [State.onFront, State.onCue, State.setReset, Filter.compare_eq]
  · intro hr
    show Host.Outcome.next _ = _
    rw [if_neg (by simp [hr])]

/-! ### The rows of a later instant -/

/-- A row of the instant `now`, with nothing coming before it, acts on the state moved on to it (R63, R166). -/
theorem exec_at (c : Instr) {now : Time} {f : State → State} (hs : s.Ready) (hc : IsEvent c)
    (he : ∀ u, effect c u = f (u.moveOn now)) : exec c s = .next (f (s.at now)).drive := by
  rw [exec_unowed hc hs.1, he, State.moveOn_of_headWaits now hs.2]
  rfl

/-- Settles O9: each input's filter compares the new level. -/
theorem levelChanges : Obligations.LevelChanges := by
  intro now l s hs
  constructor
  · rw [exec_at (.csyncLevelChange now l) (f := State.csyncLevel l) hs ⟨nofun, nofun⟩ fun _ => rfl]
    unfold State.csyncLevel
    simp only [State.onFront, State.setRawCsync, Filter.compare_eq]
    rfl
  · rw [exec_at (.cueLevelChange now l) (f := State.cueLevel l) hs ⟨nofun, nofun⟩ fun _ => rfl]
    unfold State.cueLevel
    simp only [State.onCue, State.setRawCue, Filter.compare_eq]
    rfl

/-- A filter is not ripe with no run, or one that has not lasted its width (R1, R153). -/
theorem Filter.not_ripe {w : Nat} {now : Time} {f : Filter}
    (h : f.run = none ∨ ∃ t0, f.run = some t0 ∧ (now - t0).toInt < f.widthAt w now) : f.ripe w now = none := by
  obtain h | ⟨t0, h, hw⟩ := h
  · exact Filter.ripe_of_none h
  · exact Filter.ripe_of_lt h hw

/-- Settles O10: the filter ripe from HIGH, and not. -/
theorem acceptedFall : Obligations.AcceptedFall := by
  intro now s hs
  refine ⟨fun t0 hacc hrun hw => ?_, fun h => ?_⟩ <;>
    rw [exec_at (.acceptedFall now) (f := State.csyncFall) hs ⟨nofun, nofun⟩ fun _ => rfl]
  · have hripe : (s.at now).front.filter.ripe (s.at now).fFall now = some t0 := Filter.ripe_of_le hrun hw
    unfold State.csyncFall
    rw [show (s.at now).front.filter.accepted = .high from hacc, show (s.at now).timebase = now from rfl, hripe]
    rfl
  · have hnone : (s.at now).csyncFall = s.at now := by
      unfold State.csyncFall
      split
      next t hh ht =>
        obtain h | h := h
        · exact absurd (h.symm.trans hh) (by simp)
        · rw [show (s.at now).front.filter.ripe (s.at now).fFall (s.at now).timebase = none from Filter.not_ripe h] at ht
          cases ht
      · rfl
    rw [hnone]

/-- Settles O11: the filter ripe from LOW, with a pulse in progress or none, and not ripe. -/
theorem acceptedRise : Obligations.AcceptedRise := by
  intro now t0 s hs
  refine ⟨fun hacc hrun hw => ?_, fun h => ?_⟩
  · have hripe : (s.at now).front.filter.ripe (s.at now).fRise now = some t0 := Filter.ripe_of_le hrun hw
    rw [exec_at (.acceptedRise now) (f := State.csyncRise) hs ⟨nofun, nofun⟩ fun _ => rfl]
    unfold State.csyncRise
    rw [show (s.at now).front.filter.accepted = .low from hacc, show (s.at now).timebase = now from rfl, hripe]
    dsimp only
    refine ⟨fun lead hp => ?_, fun hp => ?_⟩
    · rw [show (s.at now).front.pulse = some lead from hp]
      rfl
    · rw [show (s.at now).front.pulse = none from hp, hp]
      rfl
  · rw [exec_at (.acceptedRise now) (f := State.csyncRise) hs ⟨nofun, nofun⟩ fun _ => rfl]
    have hnone : (s.at now).csyncRise = s.at now := by
      unfold State.csyncRise
      split
      next t hh ht =>
        obtain h | h := h
        · exact absurd (h.symm.trans hh) (by simp)
        · have hn : s.front.filter.ripe s.fRise now = none := Filter.not_ripe (h.imp_right fun h => ⟨t0, h⟩)
          rw [show (s.at now).front.filter.ripe (s.at now).fRise (s.at now).timebase = none from hn] at ht
          cases ht
      · rfl
    rw [hnone]

/-- Settles O12: a pulse that has reached 65,535 ticks, and one that has not. -/
theorem pulseSaturation : Obligations.PulseSaturation := by
  intro now lead s hs
  rw [exec_at (.pulseSaturation now) (f := State.saturate) hs ⟨nofun, nofun⟩ fun _ => rfl]
  unfold State.saturate
  refine ⟨fun hp hw => ?_, fun h => ?_⟩
  · rw [show (s.at now).front.pulse = some lead from hp]
    simp only
    rw [if_pos (show 65535 ≤ sdiff (s.at now).timebase lead from hw)]
    rfl
  · obtain hp | ⟨hp, hw⟩ := h <;> rw [show (s.at now).front.pulse = _ from hp]
    simp only
    rw [if_neg (show ¬ 65535 ≤ sdiff (s.at now).timebase lead from not_le.mpr hw)]

/-- The widths and limits of the front end after power reset (R19). -/
theorem State.frontSettings_of_reset {dclk : BitVec 2} {std : Standard} (h : s.setup = .reset dclk std) :
    (s.fFall, s.fRise, s.wEq, s.wBroad, s.frameLines) = (8, 8, 190, 810, if std = .lines525 then 525 else 625) := by
  rw [State.frameLines_of_reset h]
  unfold State.fFall State.fRise State.wEq State.wBroad
  rw [h]
  rfl

/-- Settles O5: the reset values, the run that a low CSYNC begins, and its fall 8 ticks on. -/
theorem powerResetFrontEnd : Obligations.PowerResetFrontEnd := by
  intro base dclk std s
  let t := State.powerReset base dclk std s.rawCsync s.rawCue true s.bresetHeld s.choices s.pending
  let u := t.releaseReset.drive
  have hready : u.Ready := ⟨⟨rfl, rfl, rfl⟩, rfl⟩
  have hfall : u.fFall = 8 := congrArg Prod.fst (State.frontSettings_of_reset (s := u) (dclk := dclk) (std := std) rfl)
  obtain ⟨hripe, hquiet⟩ := acceptedFall 8 u hready
  cases hraw : s.rawCsync with
  | low =>
    have hrun : u.front.filter = { accepted := .high, run := some 0 } := by simp [u, t, State.releaseReset, State.powerReset, hraw, Filter.compare, FrontEnd.reset]
    refine ⟨t, u, _, rfl, rfl, hripe 0 (by rw [hrun]) (by rw [hrun]) ?_, rfl, State.frontSettings_of_reset rfl, ?_, ?_⟩
    · simp only [hrun, hfall]
      decide
    · simp [hrun]
    · rfl
  | high =>
    have hrun : u.front.filter = { accepted := .high, run := none } := by simp [u, t, State.releaseReset, State.powerReset, hraw, Filter.compare, FrontEnd.reset]
    refine ⟨t, u, _, rfl, rfl, hquiet (.inr (.inl (by rw [hrun]))), rfl, State.frontSettings_of_reset rfl, ?_, ?_⟩
    · simp [hrun]
    · rfl

/-! ### Writes outside the captured words -/

/-- The words of the cue area that are captured end at 0x048, stand at 0x100 to 0x2A3, and at 0x7C0 and 0x7C1 (R161). -/
theorem placeOf_plain {o : Nat} (h : 0x7C1 < o ∨ (0x048 < o ∧ o < 0x100) ∨ (0x2A3 < o ∧ o < 0x7C0)) :
    placeOf o = .plain := by
  unfold placeOf
  repeat rw [if_neg (by omega)]

/-- Settles O34: the four rows are one cycle, and one that is not captured passes. -/
theorem writesOutsideTheCapturedWords : Obligations.WritesOutsideTheCapturedWords := by
  intro a w l s
  refine ⟨rfl, rfl, rfl, fun hs h => ?_⟩
  have he : effect (.capturedWrite a w l) s = s.cpuWrite a w l := by
    simp only [effect, State.serve_of_headWaits hs.2]
  rw [exec_unowed (c := .capturedWrite a w l) ⟨nofun, nofun⟩ hs.1, he]
  unfold State.cpuWrite
  dsimp only
  split
  · rfl
  next hb =>
    split
    next o ho =>
      have hp : placeOf o = .plain := by
        unfold State.offsetOf at ho
        split at ho
        · obtain rfl := Option.some.inj ho
          refine placeOf_plain ?_
          have h := h.resolve_left hb
          omega
        · cases ho
      rw [hp]
      rfl
    · rfl

end Sys2Proof.Machine
end

section
/-! Power reset of the blocks behind the loop. -/

namespace Sys2Proof.Machine

/-- The pending window sets and ramp records after power reset decode to the live ones (R109). -/
theorem Title.reset_adopt_sets : Title.reset.adopt.sets = Title.reset.sets := by decide

theorem Title.reset_adopt_ramps : Title.reset.adopt.ramps = Title.reset.ramps := by decide

/-- An all-zero table entry is the reset entry (11.4, R156). -/
theorem decodeCue_zero (i : Nat) : decodeCue pendingTableDefault i = Cue.reset := by
  have hw (j : Nat) : wordAt pendingTableDefault j = 0 := by
    unfold wordAt pendingTableDefault
    rw [Vector.getElem?_replicate]
    split <;> rfl
  unfold decodeCue numAt
  simp only [hw]
  rfl

/-- The pending cue table after power reset decodes to the live one (R156). -/
theorem CueUnit.reset_adopt (cue : Level) :
    (CueUnit.reset cue).adopt.entries = (CueUnit.reset cue).entries ∧ (CueUnit.reset cue).adopt.count = 0 := by
  refine ⟨?_, rfl⟩
  ext i hi
  simp [CueUnit.adopt, CueUnit.reset, decodeCue_zero]

theorem Title.reset_live (i : Fin 4) : Title.reset.sets[i] = WindowSet.reset ∧ Title.reset.ramps[i] = RampRecord.reset := by
  constructor <;> simp [Title.reset]

/-- The base of the cue area is the strap value times 2^14 (R158). -/
theorem Bus.reset_base (base : BitVec 4) : (Bus.reset base).base.toNat = base.toNat * 16384 := by
  unfold Bus.reset
  rw [BitVec.toNat_append, Nat.shiftLeft_eq]
  simp

theorem defaultDots_eq (dclk : BitVec 2) : defaultDots dclk = [448, 896, 910, 1024][dclk.toNat]?.getD 0 := by
  revert dclk
  decide

/-- The settings of the CUE input and of the field counter after power reset (R156). -/
theorem State.cueSettings_of_reset {s : State} {dclk : BitVec 2} {std : Standard} (h : s.setup = .reset dclk std) :
    (s.cueWidth, s.useReset, s.useAdvance, s.useLatch, s.ringMode, s.modulus) =
      (16, false, false, false, false, 50000) := by
  unfold State.cueWidth State.useReset State.useAdvance State.useLatch State.ringMode State.modulus
  rw [show s.setup.aux = auxSetupDefaults by rw [h]; rfl]
  decide

/-- Settles O6: each field at its value, the settings read from the default words. -/
theorem powerResetOtherBlocks : Obligations.PowerResetOtherBlocks := by
  intro base dclk std s
  let t := State.powerReset base dclk std s.rawCsync s.rawCue true s.bresetHeld s.choices s.pending
  have hs : t.setup = .reset dclk std := rfl
  obtain ⟨hentries, hcount⟩ := CueUnit.reset_adopt s.rawCue
  refine ⟨t, rfl, rfl, rfl, rfl, rfl, rfl, rfl, rfl, ?_, rfl, ?_, Title.reset_adopt_sets, Title.reset_adopt_ramps, ?_, rfl, rfl,
    ?_, rfl, hentries, hcount, rfl, ?_, rfl, rfl, State.cueSettings_of_reset hs, Bus.reset_base base, rfl, ?_, rfl, rfl, rfl, rfl⟩
  · rw [State.setupDots_of_reset hs, ← defaultDots_eq]
    rfl
  · rw [State.vOff_of_reset hs]
    rfl
  · intro i
    obtain ⟨hset, hramp⟩ := Title.reset_live i
    refine ⟨by rw [show t.title.sets[i] = _ from hset]; rfl, by rw [show t.title.sets[i] = _ from hset]; rfl,
      by rw [show t.title.sets[i] = _ from hset]; rfl, hramp, fun w => ?_⟩
    rw [show t.title.sets[i] = _ from hset]
    simp [WindowSet.reset, Window.reset]
  · intro i
    simp [t, State.powerReset, Keyer.reset, Ramp.reset]
  · intro i
    simp [t, State.powerReset, CueUnit.reset, Cue.reset]
  · intro i
    simp [t, State.powerReset, Bus.reset, snapshotDefault]

end Sys2Proof.Machine
end

section
/-! Completed records, the slew line, and the nearest prediction. -/

namespace Sys2Proof.Machine

variable {s t : State}

/-! ### Causes and the entry of a state -/

/-- A cause raised where a condition holds adds its mark (R172). -/
theorem State.raiseIf_causes (p : Prop) [Decidable p] (c : Cause) (s : State) : s.raiseIf (decide p) c =
    { s with att := { s.att with causes := if p then s.att.causes ||| c.mark else s.att.causes } } := by
  unfold State.raiseIf
  by_cases h : p
  · simp only [h, decide_true, if_true]
    rfl
  · simp only [h, decide_false, if_false]
    rfl

/-- F lies where I may, so I becomes F clamped (R21). -/
theorem State.incToFreq_eq (s : State) : s.incToFreq = s.handed (clamp s.iMin s.iMax s.loop.freq) := rfl

/-- The clamp of F depends on the setup and F alone. -/
theorem clamp_freq_congr {u : State} (h : u.setup = s.setup) (hf : u.loop.freq = s.loop.freq) :
    clamp u.iMin u.iMax u.loop.freq = clamp s.iMin s.iMax s.loop.freq := by
  rw [State.iMin_congr h, State.iMax_congr h, hf]

/-- The entry of OFF (R15, R18, R21). -/
theorem State.enter_off (s : State) : s.enter .off = s.entered .off := by
  unfold State.enter
  dsimp only
  rw [State.incToFreq_eq, clamp_freq_congr (s := s) (by simp) (by simp [Loop.disengage, Loop.moveTo])]
  rfl

/-- The entry of SEEK (R15, R18, R21). -/
theorem State.enter_seek (s : State) : s.enter .seek = s.entered .seek := by
  unfold State.enter
  dsimp only
  rw [State.incToFreq_eq, clamp_freq_congr (s := s) (by simp) (by simp [Loop.disengage, Loop.moveTo])]
  rfl

/-- The entry of PULL (R21). -/
theorem State.enter_pull (s : State) : s.enter .pull = { s with loop := { s.loop with
    state := .pull, lockCount := 0, missedRun := 0, candidates := [], holdoverOwed := false } } := rfl

/-- The entry of COAST, in which I becomes F (R21). -/
theorem State.enter_coast (s : State) : s.enter .coast = { s with
    loop := { s.loop with
      state := .coast, inc := clamp s.iMin s.iMax s.loop.freq, returnCount := 0, holdCount := 0, candidates := [],
      holdoverOwed := false }
    synth := { s.synth with handed := clamp s.iMin s.iMax s.loop.freq } } := by
  unfold State.enter
  dsimp only
  rw [State.incToFreq_eq, clamp_freq_congr (s := s) (by simp) (by simp [Loop.moveTo])]
  rfl

/-! ### Completed records -/

theorem parityOf_eq (phi : Int) (s : State) :
    s.parityOf phi = if 4 * phi.natAbs ≤ s.pb then .field1 else .field2 := rfl

theorem parityOf_field1_iff (phi : Int) (s : State) : s.parityOf phi = .field1 ↔ 4 * phi.natAbs ≤ s.pb := by
  rw [parityOf_eq]
  split <;> simp_all

/-- A record that is no field start counts, or ends the run (R9). -/
theorem detect_of_no_field {p : Pulse} (h : p.cls = .broad → s.front.runCount < 6) :
    s.detect p = { s with front := { s.front with
      runCount := if p.cls = .broad then 0 else min 65535 (s.front.runCount + 1) } } := by
  unfold State.detect
  by_cases hb : p.cls = .broad
  · rw [if_pos hb, if_pos hb, if_neg (by have := h hb; omega)]
    rfl
  · rw [if_neg hb, if_neg hb]
    rfl

/-- A field start: the BROAD record of a run of six or more (R10). -/
theorem detect_of_field {p : Pulse} (hb : p.cls = .broad) (hr : 6 ≤ s.front.runCount) :
    s.detect p = (s.fieldStart p.lead).onFront fun f => { f with runCount := 0 } := by
  unfold State.detect
  rw [if_pos hb, if_pos hr]

/-- A field start without a valid prediction (R10, R11, R14, R17, R82). -/
theorem fieldStart_of_invalid (hv : s.loop.valid = false) (lead : Time) : s.fieldStart lead = { s with
    front := { s.front with
      last := s.front.accum
      accum := { accepted := 0, missed := 0, excused := 0, candidates := 0, maxError := 0, shortest := 0,
                 longest := 0, lines := 0, parity := .unknown } }
    align := { s.align with count :=
      if s.align.released = some s.timebase ∧ 4 * (s.phaseOf lead).natAbs ≤ s.pb then 0 else s.align.count } } := by
  unfold State.fieldStart
  rw [if_neg (by simp [hv])]
  unfold State.skipCheck
  have hiff : ((s.completeField .unknown).align.released = some (s.completeField .unknown).timebase ∧
      (s.completeField .unknown).parityOf ((s.completeField .unknown).phaseOf lead) = .field1) ↔
      s.align.released = some s.timebase ∧ 4 * (s.phaseOf lead).natAbs ≤ s.pb :=
    and_congr_right' (parityOf_field1_iff _ s)
  by_cases h : s.align.released = some s.timebase ∧ 4 * (s.phaseOf lead).natAbs ≤ s.pb
  · rw [if_pos (hiff.mpr h), if_pos h]
    rfl
  · rw [if_neg (mt hiff.mp h), if_neg h]
    rfl

/-- The value R13 gives the line counter at a field start of a phase, `L` being the line its pulse began in (log 33). -/
def State.forcedLine (lead : Time) (phi : Int) (L : Nat) (s : State) : Nat :=
  match s.front.lineTime with
  | none => L
  | some T => ((L + (if ¬ 4 * phi.natAbs ≤ s.pb ∧ phi < 0 then 1 else 0) +
      (if s.pb = 0 then Config.linesByZero (T - (lead - BitVec.ofInt 32 phi)).toInt
       else (2 * (T - (lead - BitVec.ofInt 32 phi)).toInt + s.pb) / (2 * s.pb)) - 1) % s.frameLines).toNat + 1

theorem expectedLine_eq (lead : Time) (phi : Int) (s : State) : s.expectedLine lead phi =
    s.forcedLine lead phi (if 4 * phi.natAbs ≤ s.pb then 1 else (s.frameLines + 1) / 2) := by
  unfold State.expectedLine State.forcedLine
  rw [parityOf_eq]
  by_cases ho : 4 * phi.natAbs ≤ s.pb
  · rw [if_pos ho, if_pos ho]
    cases s.front.lineTime <;> simp [State.fieldLine, wrapLine, State.linesBetween, roundDivInt, sdiff, ho]
  · rw [if_neg ho, if_neg ho]
    cases s.front.lineTime <;> simp [State.fieldLine, wrapLine, State.linesBetween, roundDivInt, sdiff, ho]

/-- A field start with a valid prediction (R10, R11, R13, R14, R17). -/
theorem fieldStart_of_valid (hv : s.loop.valid = true) {lead : Time} {phi : Int} (hphi : phi = s.phaseOf lead) {now : Nat}
    (hnow : s.expectedLine lead phi = now) {par : Parity} (hpar : s.parityOf phi = par) :
    s.fieldStart lead =
      let u : State := { s with
        front := { s.front with
          lineValid := true
          line := now
          parity := par
          last := s.front.accum
          accum := { accepted := 0, missed := 0, excused := 0, candidates := 0, maxError := 0, shortest := 0,
                     longest := 0, lines := 0, parity := par } }
        att := { s.att with causes :=
          if s.front.lineValid = true ∧ s.front.line ≠ now then s.att.causes ||| 0x0010 else s.att.causes } }
      if 4 * phi.natAbs ≤ s.pb then u.frameCheck else u := by
  subst hphi
  unfold State.fieldStart
  rw [if_pos hv]
  dsimp only
  rw [hnow, hpar]
  have hforce : s.forceLine now = { s with
      front := { s.front with lineValid := true, line := now }
      att := { s.att with causes :=
        if s.front.lineValid = true ∧ s.front.line ≠ now then s.att.causes ||| 0x0010 else s.att.causes } } := by
    unfold State.forceLine
    rw [show (s.front.lineValid && s.front.line != now) = decide (s.front.lineValid = true ∧ s.front.line ≠ now) by
      rw [Bool.eq_iff_iff]; simp]
    rw [State.raiseIf_causes]
    rfl
  rw [hforce, ← hpar, ite_congr (propext (parityOf_field1_iff _ s)) (fun _ => rfl) (fun _ => rfl), hpar]
  rfl

/-- Settles O13: the field detector, by whether the record is a field start and the prediction valid. -/
theorem completedRecord : Obligations.CompletedRecord := by
  intro p s
  have hq (u : State) (h : s.detect p = u) : s.completePulse p = u.queued p := by
    unfold State.completePulse
    rw [h, State.enqueuePulse_eq]
  refine ⟨fun h => hq _ (detect_of_no_field h), fun hb hr hv => hq _ ?_, fun phi L hb hr hv hphi hL => hq _ ?_⟩
  · rw [detect_of_field hb hr, fieldStart_of_invalid hv]
    rfl
  · rw [detect_of_field hb hr, fieldStart_of_valid hv hphi (by rw [expectedLine_eq, ← hL]) (parityOf_eq phi s)]
    cases hT : s.front.lineTime <;> simp only [State.forcedLine, hT] <;> rfl

end Sys2Proof.Machine
end

section
/-! The slew line, and the nearest prediction. -/

namespace Sys2Proof.Machine

variable {s t : State}

/-! ### The slew line -/

/-- The level chosen is the largest of the three that may be (R84). -/
theorem Aligner.choose_eq {al : Aligner} {m : Nat} (hm : m = al.level + 1 ∨ m = al.level ∨ m + 1 = al.level)
    (htop : m ≤ al.top) (hfit : al.stepA * m * (m + 1) / 2 ≤ al.distance)
    (hup : m ≤ al.level → al.level + 1 ≤ al.top →
      al.distance < al.stepA * (al.level + 1) * (al.level + 2) / 2)
    (hstay : m < al.level → al.distance < al.stepA * al.level * (al.level + 1) / 2) : al.choose = m := by
  have hmay : al.mayChoose m = true := al.mayChoose_iff m |>.mpr ⟨htop, hfit⟩
  have hnoUp (h : m ≤ al.level) : ¬ al.mayChoose (al.level + 1) = true := fun hc => by
    obtain ⟨h1, h2⟩ := (al.mayChoose_iff _).mp hc
    exact absurd h2 (not_le.mpr (hup h h1))
  have hnoStay (h : m < al.level) : ¬ al.mayChoose al.level = true := fun hc =>
    absurd ((al.mayChoose_iff _).mp hc).2 (not_le.mpr (hstay h))
  unfold Aligner.choose
  obtain rfl | rfl | hm := hm
  · rw [if_pos hmay]
  · rw [if_neg (hnoUp le_rfl), if_pos hmay]
  · rw [if_neg (hnoUp (by omega)), if_neg (hnoStay (by omega))]
    omega

/-- The state a slew line start leaves before any end of the slew: the level, D and I (R84, R85). -/
def State.slipped (m i : Nat) (s : State) : State := { s with
  align := { s.align with level := m, distance := s.align.distance - m * s.align.stepA }
  loop := { s.loop with inc := i }
  synth := { s.synth with handed := i } }

theorem slewLine_of_slew (hs : s.loop.state = .slew) {m i : Nat} (hm : s.align.choose = m)
    (hi : i = clampInt s.iMin s.iMax
      (if s.align.forward then (s.loop.freq : Int) + (s.loop.freq * m * s.align.stepA / 4096 : Nat)
       else (s.loop.freq : Int) - (s.loop.freq * m * s.align.stepA / 4096 : Nat))) :
    s.slewLine =
      if m = 0 then ((s.slipped m i).enter (s.slipped m i).afterSlew).raise .slewDone else s.slipped m i := by
  have hslip : (s.onAlign Aligner.slip).handInc (s.onAlign Aligner.slip).slewInc = s.slipped m i := by
    rw [State.handInc_eq, State.clampInc_congr (s := s) (u := s.onAlign Aligner.slip) rfl]
    have hinc : (s.onAlign Aligner.slip).slewInc = if s.align.forward then
          (s.loop.freq : Int) + (s.loop.freq * s.align.choose * s.align.stepA / 4096 : Nat)
        else (s.loop.freq : Int) - (s.loop.freq * s.align.choose * s.align.stepA / 4096 : Nat) := rfl
    rw [hinc, hm, State.clampInc, ← hi]
    unfold State.onAlign Aligner.slip
    rw [hm]
    rfl
  unfold State.slewLine
  rw [if_pos hs]
  dsimp only
  rw [hslip, show (s.onAlign Aligner.slip).align.level = m from hm]

/-- Settles O15: the choice of the level, and the three ways in which a slew ends. -/
theorem slewLine : Obligations.SlewLine := by
  intro s m i
  refine ⟨fun hs => if_neg hs, fun hs _ hm htop hfit hup hstay hi => ?_⟩
  rw [slewLine_of_slew hs (Aligner.choose_eq hm htop hfit hup hstay) hi]
  have hafter : (s.slipped m i).afterSlew =
      if s.align.abandon then .off else if s.loop.edgeless < s.mCoast then .pull else .coast := rfl
  intro u
  by_cases h0 : m = 0
  · rw [if_pos h0, if_neg (not_not.mpr h0), hafter]
    by_cases ha : s.align.abandon = true
    · rw [if_pos ha, if_pos ha, State.enter_off]
      rfl
    · rw [if_neg ha, if_neg ha]
      by_cases he : s.loop.edgeless < s.mCoast
      · rw [if_pos he, if_pos he, State.enter_pull]
        rfl
      · rw [if_neg he, if_neg he, State.enter_coast]
        rfl
  · rw [if_neg h0, if_pos h0]
    rfl

/-! ### The nearest prediction -/

/-- Predictions of lines apart differ, where a line lasts a tick or more (R28). -/
theorem Loop.span_lt {l : Loop} (h : 16 ≤ l.pb16) {j k : Nat} (hjk : j < k) : l.span j < l.span k := by
  have hmul : (j + 1) * l.pb16 ≤ k * l.pb16 := Nat.mul_le_mul_right _ hjk
  rw [Nat.succ_mul] at hmul
  unfold Loop.span
  rw [roundDiv_sixteen, roundDiv_sixteen]
  omega

/-- A time from the base on lies between the prediction of the line it has reached and that of the next (R28). -/
theorem Loop.span_bracket {l : Loop} (h : 16 ≤ l.pb16) (d : Nat) :
    l.span (d * 16 / l.pb16) ≤ d ∧ d ≤ l.span (d * 16 / l.pb16 + 1) := by
  have hlo : d * 16 / l.pb16 * l.pb16 ≤ d * 16 := Nat.div_mul_le_self _ _
  have hhi : d * 16 < (d * 16 / l.pb16 + 1) * l.pb16 := by
    rw [← Nat.div_lt_iff_lt_mul (by omega)]
    exact Nat.lt_succ_self _
  unfold Loop.span
  rw [roundDiv_sixteen, roundDiv_sixteen]
  omega

/-- The nearest line start is nearer than every other, or as near as an earlier one (R10, R28). -/
theorem Loop.nearestIndex_nearest {l : Loop} (h : 16 ≤ l.pb16) (d j : Nat) (hj : j ≠ l.nearestIndex d) :
    ((d : Int) - l.span (l.nearestIndex d)).natAbs < ((d : Int) - l.span j).natAbs ∨
      (j < l.nearestIndex d ∧
        ((d : Int) - l.span (l.nearestIndex d)).natAbs = ((d : Int) - l.span j).natAbs) := by
  obtain ⟨hlo, hhi⟩ := Loop.span_bracket h d
  unfold Loop.nearestIndex at hj ⊢
  dsimp only at hj ⊢
  generalize d * 16 / l.pb16 = k at hj hlo hhi ⊢
  have hbelow (hjk : j < k) : l.span j < l.span k := Loop.span_lt h hjk
  have habove (hjk : k + 1 < j) : l.span (k + 1) < l.span j := Loop.span_lt h hjk
  split at hj
  next hnear =>
    rw [if_pos hnear]
    obtain hjk | rfl | hjk : j < k ∨ j = k + 1 ∨ k + 1 < j := by omega
    · have := hbelow hjk
      omega
    · omega
    · have := habove hjk
      omega
  next hfar =>
    rw [if_neg hfar]
    obtain hjk | rfl | hjk : j < k ∨ j = k ∨ k + 1 < j := by omega
    · have := hbelow hjk
      omega
    · omega
    · have := habove hjk
      omega

/-- A wrap moves by whole multiples of the period, into the range about 0 (R10, R57). -/
theorem wrapPeriod_spec (x : Int) {pb : Nat} (h : 0 < pb) : (pb : Int) ∣ wrapPeriod x pb - x ∧
    -((pb / 2 : Nat) : Int) ≤ wrapPeriod x pb ∧ wrapPeriod x pb < pb - ((pb / 2 : Nat) : Int) := by
  have hw : wrapPeriod x pb = wrapCentred x pb := if_neg (by omega)
  rw [hw]
  refine ⟨⟨-((x + (pb / 2 : Nat)) / pb), ?_⟩, wrapCentred_mem x h⟩
  unfold wrapCentred
  rw [Int.emod_def]
  ring

theorem nearestLine_eq_none {t : Time} {l : List OpenLine} (h : nearestLine t l = none) : l = [] := by
  cases l with
  | nil => rfl
  | cons o rest =>
    unfold nearestLine at h
    split at h
    · cases h
    · split at h <;> cases h

/-- The line a time is given to is as near as every line before it and nearer than every line after it (R27). -/
theorem nearestLine_spec {t : Time} {l : List OpenLine} {b : OpenLine} (h : nearestLine t l = some b) :
    ∃ before after, l = before ++ b :: after ∧
      (∀ x ∈ before, (t - b.pred).toInt.natAbs ≤ (t - x.pred).toInt.natAbs) ∧
      (∀ x ∈ after, (t - b.pred).toInt.natAbs < (t - x.pred).toInt.natAbs) := by
  induction l generalizing b with
  | nil => cases h
  | cons o rest ih =>
    unfold nearestLine at h
    split at h
    next hr =>
      obtain rfl := Option.some.inj h
      exact ⟨[], rest, rfl, by simp, by simp [nearestLine_eq_none hr]⟩
    next r hr =>
      obtain ⟨before, after, rfl, hbefore, hafter⟩ := ih hr
      split at h
      next hlt =>
        obtain rfl := Option.some.inj h
        refine ⟨[], _, rfl, by simp, fun x hx => ?_⟩
        have hlt : (t - o.pred).toInt.natAbs < (t - r.pred).toInt.natAbs := hlt
        obtain hx | rfl | hx : x ∈ before ∨ x = r ∨ x ∈ after := by simpa using hx
        · exact hlt.trans_le (hbefore x hx)
        · exact hlt
        · exact hlt.trans (hafter x hx)
      next hge =>
        obtain rfl := Option.some.inj h
        refine ⟨o :: before, after, rfl, fun x hx => ?_, hafter⟩
        obtain rfl | hx := List.mem_cons.mp hx
        · exact not_lt.mp hge
        · exact hbefore x hx

/-- A record is stray where it lies nearer to the line before the oldest open line (R27). -/
theorem Loop.isStray_iff {l : Loop} {o : OpenLine} {more : List OpenLine} (h : l.lines = o :: more) (t : Time) :
    l.isStray t = true ↔ (t - l.priorPred).toInt < (o.pred - t).toInt := by
  unfold Loop.isStray
  rw [h]
  exact decide_eq_true_iff

/-- Settles O16: the bracketing lines of a time, the wrap, and the nearest of the open lines. -/
theorem nearestPrediction : Obligations.NearestPrediction := by
  refine ⟨fun t next d s hpb hnext hd h0 => ?_, fun x pb => wrapPeriod_spec x, fun t o b more l hl => ?_⟩
  · have hsince : s.loop.sinceBase t = d := by
      subst hnext
      exact hd.symm
    have hnat : ((d.toNat : Nat) : Int) = d := Int.toNat_of_nonneg h0
    have hpos : 0 < s.pb := by
      unfold State.pb
      rw [roundDiv_sixteen]
      omega
    have hphase : s.phaseOf t = wrapPeriod (d - s.loop.span (s.loop.nearestIndex d.toNat)) s.pb := by
      unfold State.phaseOf
      rw [hsince]
    refine ⟨s.loop.nearestIndex d.toNat, fun j hj => ?_, ?_⟩
    · have hnear := Loop.nearestIndex_nearest hpb d.toNat j hj
      rw [hnat] at hnear
      exact hnear
    · rw [hphase]
      exact wrapPeriod_spec _ hpos
  · unfold Loop.lineFor
    constructor
    · rw [← Loop.isStray_iff hl t]
      by_cases hs : l.isStray t = true
      · simp [hs]
      · have hne : nearestLine t l.lines ≠ none := fun hn => by
          rw [nearestLine_eq_none hn] at hl
          cases hl
        simp [hs, hne]
    · split
      · exact nofun
      · exact nearestLine_spec

end Sys2Proof.Machine
end

section
/-! Records taken, by the state in force. -/

namespace Sys2Proof.Machine

variable {s t : State}

/-- The state in which the record at the head has left the queue. -/
def State.unqueued (rest : List Pulse) (s : State) : State := { s with front := { s.front with queue := rest } }

/-- RECORD_TAKEN takes the record at the head of the queue. -/
theorem exec_recordTaken (h : s.Unowed) : exec .recordTaken s = .next s.takeHead.drive :=
  exec_unowed (c := .recordTaken) ⟨nofun, nofun⟩ h

/-! ### Records that make no edge (R8, R27, R29, R35) -/

theorem State.takeHead_of_none (h : s.front.queue = [] ∨ s.loop.seek.inFlight = true) : s.takeHead = s := by
  unfold State.takeHead
  cases hq : s.front.queue with
  | nil => rfl
  | cons p rest => exact if_pos (h.resolve_left (by simp [hq]))

/-- A NARROW or BROAD record excuses its line (R29). -/
theorem State.judgeRecord_of_excuser {p : Pulse} (hc : p.cls ≠ .line) (o : OpenLine) (s : State) :
    s.judgeRecord p o = s.onLoop (Loop.onLine o.line fun x => { x with excused := true }) := by
  unfold State.judgeRecord
  cases h : p.cls with
  | line => exact absurd h hc
  | narrow => rfl
  | broad => rfl

/-- A LINE record, by its offset from the line's prediction (R29). -/
theorem State.judgeRecord_of_line {p : Pulse} (hc : p.cls = .line) (o : OpenLine) (s : State) :
    s.judgeRecord p o =
      if o.edge = true then s
      else if (p.lead - o.pred).toInt.natAbs ≤ s.gN then s.normalEdge p.lead o
      else if (p.lead - o.pred).toInt.natAbs ≤ s.gW then s.wideEdge p.lead (p.lead - o.pred).toInt o
      else s := by
  unfold State.judgeRecord
  rw [hc]
  rfl

/-- A wide edge in FROZEN or SLEW is no edge (R30). -/
theorem State.wideEdge_of_hold (h : s.loop.state = .frozen ∨ s.loop.state = .slew) (t : Time) (off : Int)
    (o : OpenLine) : s.wideEdge t off o = s := by
  unfold State.wideEdge
  obtain h | h := h
  all_goals rw [h]

/-- The LINE records that make no edge: a second edge, one outside the gates, a wide one in FROZEN or SLEW (R29, R30). -/
theorem State.judgeRecord_of_no_edge {p : Pulse} {o : OpenLine} (hc : p.cls = .line)
    (h : o.edge = true ∨ s.gW < (p.lead - o.pred).toInt.natAbs ∨
      (s.gN < (p.lead - o.pred).toInt.natAbs ∧ (s.loop.state = .frozen ∨ s.loop.state = .slew))) :
    s.judgeRecord p o = s := by
  have hgates : s.gN ≤ s.gW := Nat.le_max_left _ _
  rw [State.judgeRecord_of_line hc]
  obtain he | hfar | ⟨hwide, hst⟩ := h
  · rw [if_pos he]
  · rw [if_neg (show ¬ _ ≤ s.gN by omega), if_neg (show ¬ _ ≤ s.gW by omega), ite_self]
  · rw [if_neg (show ¬ _ ≤ s.gN by omega), State.wideEdge_of_hold hst, ite_self, ite_self]

/-- Settles O17. -/
theorem recordWithoutEdge : Obligations.RecordWithoutEdge := by
  intro s hs
  rw [exec_recordTaken hs]
  refine ⟨fun h => by rw [State.takeHead_of_none h], fun p rest hq hf => ?_⟩
  intro off u
  rw [State.takeHead_eq hq hf]
  refine ⟨fun hst => ?_, fun h1 h2 => ?_⟩
  · unfold State.takeRecord
    simp only [hst]
    rfl
  · rw [State.takeRecord_eq (s := u) h1 h2]
    refine ⟨fun hl => ?_, fun o hl => ⟨fun hc => ?_, fun hc hno => ?_⟩⟩
    · rw [show u.loop.lineFor p.lead = none from hl]
    · rw [show u.loop.lineFor p.lead = some o from hl]
      dsimp only
      rw [State.judgeRecord_of_excuser hc]
      rfl
    · rw [show u.loop.lineFor p.lead = some o from hl]
      dsimp only
      rw [State.judgeRecord_of_no_edge (s := u) hc hno]

/-! ### Records in SEEK (R45, R53) -/

/-- The seek state and Pb16 move, and nothing else. -/
def State.withSeek (k : Seek) (pb16 : Nat) (s : State) : State :=
  { s with loop := { s.loop with seek := k, pb16 := pb16 } }

theorem State.seekRecord_of_not_line {p : Pulse} (hc : p.cls ≠ .line) (s : State) :
    s.seekRecord p = s.withSeek { s.loop.seek with prev := none, acc := 0, count := 0 } s.loop.pb16 := by
  unfold State.seekRecord
  cases h : p.cls with
  | line => exact absurd h hc
  | narrow => rfl
  | broad => rfl

theorem State.seekRecord_of_first {p : Pulse} (hc : p.cls = .line) (hp : s.loop.seek.prev = none) :
    s.seekRecord p = s.withSeek { s.loop.seek with prev := some p.lead } s.loop.pb16 := by
  unfold State.seekRecord
  simp only [hc, hp]
  rfl

theorem State.seekRecord_of_next {p : Pulse} {prev : Time} (hc : p.cls = .line) (hp : s.loop.seek.prev = some prev)
    {k : Seek} (hk : s.loop.seek.addInterval s.setupDots
      (decide ((s.pLo : Int) ≤ (p.lead - prev).toInt ∧ (p.lead - prev).toInt ≤ s.pHi)) (p.lead - prev).toInt.toNat
      p.lead = k) :
    s.seekRecord p = s.withSeek k (if k.inFlight then k.acc else s.loop.pb16) := by
  subst hk
  unfold State.seekRecord
  simp only [hc, hp]
  rfl

/-- Short of sixteen good intervals the seek goes on (R45). -/
theorem Seek.addInterval_of_lt {dots i : Nat} {good : Bool} {t : Time} {k : Seek}
    (h : (if good then k.count + 1 else 0) < 16) : k.addInterval dots good i t =
      { k with
        prev := some t, acc := if good then k.acc + i else 0, count := if good then k.count + 1 else 0 } :=
  if_neg (Nat.not_le.mpr h)

/-- Settles O18: the record by its class, and the interval by its range and its count. -/
theorem seekRecords : Obligations.SeekRecords := by
  intro p rest s hs hst hf hq k then'
  rw [exec_recordTaken hs, State.takeHead_eq hq hf]
  generalize hv : ({ s with front := { s.front with queue := rest } } : State) = v
  have hseek (k : Seek) (n : Nat) : then' k n = (v.withSeek k n).drive := by rw [← hv]; rfl
  have hloop : v.loop = s.loop := by rw [← hv]
  have htake : v.takeRecord p = v.seekRecord p := by
    unfold State.takeRecord
    rw [hloop, hst]
  rw [htake]
  simp only [hseek, ← hloop]
  refine ⟨fun hc => ?_, fun hc hp => ?_, fun prev hc hp => ?_⟩
  · rw [State.seekRecord_of_not_line hc, show v.loop.seek = k from congrArg Loop.seek hloop]
  · have hp' : v.loop.seek.prev = none := by rw [hloop]; exact hp
    rw [State.seekRecord_of_first hc hp', show v.loop.seek = k from congrArg Loop.seek hloop]
  · have hp' : v.loop.seek.prev = some prev := by rw [hloop]; exact hp
    have hgood : decide ((v.pLo : Int) ≤ (p.lead - prev).toInt ∧ (p.lead - prev).toInt ≤ v.pHi) =
        decide ((s.pLo : Int) ≤ (p.lead - prev).toInt ∧ (p.lead - prev).toInt ≤ s.pHi) := by rw [← hv]; rfl
    have hk : v.loop.seek = k := congrArg Loop.seek hloop
    have hflight : k.inFlight = false := hf
    have hdots : v.setupDots = s.setupDots := by rw [← hv]; rfl
    refine ⟨fun hbad => ?_, fun hlo hhi hn => ?_, fun hlo hhi hn => ?_⟩
    · rw [State.seekRecord_of_next hc hp' (by rw [hgood, decide_eq_false hbad, hk, Seek.addInterval_of_lt (by simp)])]
      simp [hflight]
    · rw [State.seekRecord_of_next hc hp' (by
        rw [hgood, decide_eq_true ⟨hlo, hhi⟩, hk, Seek.addInterval_of_lt (by simpa using hn)])]
      simp [hflight]
    · rw [State.seekRecord_of_next hc hp' (by
        rw [hgood, decide_eq_true ⟨hlo, hhi⟩, hk, hdots])]
      have hfull : k.addInterval s.setupDots true (p.lead - prev).toInt.toNat p.lead =
          { prev := some p.lead, acc := k.acc + (p.lead - prev).toInt.toNat, count := 16, inFlight := true,
            lineStarts := 0, dots := s.setupDots } := by
        unfold Seek.addInterval
        simp [hn]
      rw [hfull]
      rfl

/-! ### Edges -/

theorem State.takeEdge_eq (t : Time) (n : Nat) (s : State) : s.takeEdge t n = { s with
    loop := { s.loop with
      base := t, baseLine := n, refTime := t, refLine := n, edgeless := 0
      lines := edgeLines t n s.loop.pb16 s.loop.lines } } := by
  rw [← Loop.rebase_lines t n s.loop.pb16 s.loop rfl]
  rfl

/-- Settles O19. -/
theorem heldEdge : Obligations.HeldEdge := by
  intro p rest o s hs hst hf hq hl hc he hn
  rw [exec_recordTaken hs, State.takeHead_given hq hf (by obtain h | h := hst <;> simp [h])
    (by obtain h | h := hst <;> simp [h]) hl]
  generalize hv : ({ s with front := { s.front with queue := rest } } : State) = v
  have hn' : (p.lead - o.pred).toInt.natAbs ≤ v.gN := by rw [← hv]; exact hn
  have hnormal : v.normalEdge p.lead o = v.takeEdge p.lead o.line := by
    unfold State.normalEdge
    obtain h | h := hst
    all_goals rw [show v.loop.state = s.loop.state by rw [← hv], h]
  rw [State.judgeRecord_of_line hc, if_neg (by simp [he]), if_pos hn', hnormal, State.takeEdge_eq]
  subst hv
  rfl

/-! ### Updates (R36, R37, R56 to R60) -/

/-- The state after an update with error `e` has made F `f` and I `i` (R58 to R60, R16). -/
def State.updated (e : Int) (f i : Nat) (s : State) : State := { s with
  front := { s.front with accum := { s.front.accum with maxError := max s.front.accum.maxError e.natAbs } }
  loop := { s.loop with freq := f, inc := i, lastE := e }
  synth := { s.synth with handed := i } }

theorem State.update_eq {e : Int} {f i : Nat} (hf : f = clampInt s.iMin s.iMax (s.loop.freq + e * s.gainI))
    (hi : i = clampInt s.iMin s.iMax (f + e * s.gainP)) : s.update e = s.updated e f i := by
  have hfreq : s.nextFreq e = f := hf.symm
  unfold State.update
  dsimp only
  rw [hfreq, State.handInc_eq, State.clampInc_congr (s := s) (by simp), State.clampInc, ← hi]
  rfl

theorem State.enter_locked (s : State) : s.enter .locked = { s with loop := { s.loop with
    state := .locked, unlockCount := 0, missedRun := 0, candidates := [], holdoverOwed := false } } := rfl

/-- The lock count after an update, and LOCKED with LOCK GAINED at N_lock (R36). -/
theorem State.moveLock_eq {e : Int} {lc : Nat} (h : lc = if e.natAbs ≤ s.tLock then s.loop.lockCount + 1 else 0) :
    s.moveLock e = if lc < s.nLock then { s with loop := { s.loop with lockCount := lc } }
      else { s with
        loop := { s.loop with
          state := .locked, lockCount := lc, unlockCount := 0, missedRun := 0, candidates := [], holdoverOwed := false }
        att := { s.att with causes := s.att.causes ||| 0x0001 } } := by
  unfold State.moveLock
  rw [← h, ← ite_not]
  simp only [Nat.not_le]
  rfl

/-- The unlock count after an update, and PULL at N_unlock (R37). -/
theorem State.moveUnlock_eq {e : Int} {uc : Nat}
    (h : uc = if s.tUnlock < e.natAbs then s.loop.unlockCount + 1 else 0) :
    s.moveUnlock e = if uc < s.nUnlock then { s with loop := { s.loop with unlockCount := uc } }
      else { s with loop := { s.loop with
        state := .pull, unlockCount := uc, lockCount := 0, missedRun := 0, candidates := [], holdoverOwed := false } } := by
  unfold State.moveUnlock
  rw [← h, ← ite_not]
  simp only [Nat.not_le]
  rfl

/-! ### Accepted edges (R31, R36, R37, R39) -/

/-- The settings of the loop's updates depend on the setup alone. -/
theorem State.updateSettings_congr {u : State} (h : u.setup = s.setup) :
    (u.iMin = s.iMin ∧ u.iMax = s.iMax ∧ u.hOff = s.hOff) ∧
      (u.giPull = s.giPull ∧ u.gpPull = s.gpPull ∧ u.tLock = s.tLock ∧ u.nLock = s.nLock) ∧
      (u.giLock = s.giLock ∧ u.gpLock = s.gpLock ∧ u.tUnlock = s.tUnlock ∧ u.nUnlock = s.nUnlock) ∧
      u.rReturn = s.rReturn := by
  simp [State.iMin_congr h, State.iMax_congr h, State.hOff, State.giPull, State.gpPull, State.tLock, State.nLock,
    State.giLock, State.gpLock, State.tUnlock, State.nUnlock, State.rReturn, h]

/-- The error of an edge, by the local line start and the offset of the settings (R56 to R58). -/
theorem State.phaseError_congr {u : State} (h : u.setup = s.setup) (hr : u.raster = s.raster) (t : Time) :
    u.phaseError t = max (-1023) (min 1023 (wrapPeriod ((s.raster.lastStart - t).toInt - s.hOff)
      (roundDiv u.loop.pb16 16))) := by
  rw [State.phaseError, hr, (State.updateSettings_congr h).1.2.2]
  rfl

/-- Settles O20: parts 1 to 4 of R31 leave F, the settings and the lock count as they were. -/
theorem pullUpdate : Obligations.PullUpdate := by
  intro p rest o v e f i lc s hs hst hf hq hl hc he hn hv hee hff hii hlc w
  rw [exec_recordTaken hs, State.takeHead_accepted (.inl hst) hq hf hl hc he (.inr ⟨hn, by simp [hst]⟩)]
  obtain ⟨hsetup, hraster, -, hstate, hfreq, hlock, -, -⟩ := State.edgeTaken_frame p.lead o
    ({ s with front := { s.front with queue := rest } } : State)
  rw [← hv] at hsetup hraster hstate hfreq hlock ⊢
  obtain ⟨⟨hmin, hmax, -⟩, ⟨hgi, hgp, htlock, hnlock⟩, -, -⟩ := State.updateSettings_congr (s := s) hsetup
  have hpull : v.loop.state = .pull := hstate.trans hst
  have herr : v.phaseError p.lead = e := by rw [State.phaseError_congr (s := s) hsetup hraster, hee]
  have hupdate : v.update e = v.updated e f i := State.update_eq
    (by rw [hff, hmin, hmax, hfreq, State.gainI, if_pos hpull, hgi])
    (by rw [hii, hmin, hmax, State.gainP, if_pos hpull, hgp])
  have hcount : lc = if e.natAbs ≤ (v.updated e f i).tLock then (v.updated e f i).loop.lockCount + 1 else 0 := by
    rw [hlc, ← htlock, ← show v.loop.lockCount = s.loop.lockCount from hlock]
    rfl
  have hsettle : v.settleEdge p.lead = (v.updated e f i).moveLock e := by
    rw [← hupdate, ← herr]
    unfold State.settleEdge
    rw [hpull]
  rw [hsettle, State.moveLock_eq hcount, ← hnlock]
  rfl

/-- Settles O21: parts 1 to 4 of R31 leave F, the settings and the unlock count as they were. -/
theorem lockedUpdate : Obligations.LockedUpdate := by
  intro p rest o v e f i uc s hs hst hf hq hl hc he hn hv hee hff hii huc w
  rw [exec_recordTaken hs, State.takeHead_accepted (.inr (.inl hst)) hq hf hl hc he (.inl hn)]
  obtain ⟨hsetup, hraster, -, hstate, hfreq, -, hunlock, -⟩ := State.edgeTaken_frame p.lead o
    ({ s with front := { s.front with queue := rest } } : State)
  rw [← hv] at hsetup hraster hstate hfreq hunlock ⊢
  obtain ⟨⟨hmin, hmax, -⟩, -, ⟨hgi, hgp, htunlock, hnunlock⟩, -⟩ := State.updateSettings_congr (s := s) hsetup
  have hlocked : v.loop.state = .locked := hstate.trans hst
  have herr : v.phaseError p.lead = e := by rw [State.phaseError_congr (s := s) hsetup hraster, hee]
  generalize hu : v.onLoop (fun l => { l with candidates := [] }) = u
  have hne : ¬ u.loop.state = .pull := by rw [← hu]; simp [hlocked]
  have husetup : u.setup = v.setup := by rw [← hu]; rfl
  have hufreq : u.loop.freq = v.loop.freq := by rw [← hu]; rfl
  have hupdate : u.update e = u.updated e f i := State.update_eq
    (by rw [hff, State.iMin_congr husetup, State.iMax_congr husetup, hmin, hmax, hufreq, hfreq, State.gainI, if_neg hne,
      (State.updateSettings_congr husetup).2.2.1.1, hgi])
    (by rw [hii, State.iMin_congr husetup, State.iMax_congr husetup, hmin, hmax, State.gainP, if_neg hne,
      (State.updateSettings_congr husetup).2.2.1.2.1, hgp])
  have hcount : uc = if (u.updated e f i).tUnlock < e.natAbs then (u.updated e f i).loop.unlockCount + 1 else 0 := by
    rw [huc, ← htunlock, ← show v.loop.unlockCount = s.loop.unlockCount from hunlock, ← hu]
    rfl
  have hsettle : v.settleEdge p.lead = (u.updated e f i).moveUnlock e := by
    rw [← hupdate, ← herr, ← hu]
    unfold State.settleEdge
    rw [hlocked]
  rw [hsettle, State.moveUnlock_eq hcount, ← hnunlock, ← hu]
  rfl

/-- The return count at an accepted edge, and PULL at R_return or the choice between PULL and the holdover (R39, log 7). -/
theorem State.moveReturn_eq {n : Nat} {u : State} (hn : n = s.loop.returnCount + 1)
    (hu : u = { s with loop := { s.loop with returnCount := n } }) :
    s.moveReturn = if n < s.rReturn then u
      else if s.loop.holdoverOwed = true then if u.tie.1 then u.tie.2.enter .pull else u.tie.2
      else u.enter .pull := by
  subst hn hu
  unfold State.moveReturn
  rw [← ite_not]
  simp only [Nat.not_le]
  rfl

/-- Settles O22: the return count below R_return, at it, and at it with the holdover run out by the same edge. -/
theorem coastReturn : Obligations.CoastReturn := by
  intro p rest o v s hs hst hf hq hl hc he hn hv w back
  rw [exec_recordTaken hs, State.takeHead_accepted (.inr (.inr hst)) hq hf hl hc he (.inr ⟨hn, by simp [hst]⟩)]
  obtain ⟨hsetup, -, hchoices, hstate, -, -, -, hreturn⟩ := State.edgeTaken_frame p.lead o
    ({ s with front := { s.front with queue := rest } } : State)
  rw [← hv] at hsetup hchoices hstate hreturn ⊢
  have hcount : s.loop.returnCount + 1 = v.loop.returnCount + 1 := by rw [hreturn]
  have hsettle : v.settleEdge p.lead = v.moveReturn := by
    unfold State.settleEdge
    rw [show v.loop.state = .coast from hstate.trans hst]
  rw [hsettle, State.moveReturn_eq (u := w) hcount rfl, (State.updateSettings_congr (s := s) hsetup).2.2.2]
  refine ⟨fun hlt => by rw [if_pos hlt], fun hge ho => ?_, fun hge ho => ?_⟩
  · rw [if_neg (Nat.not_lt.mpr hge), if_neg (by simp [ho])]
    rfl
  · rw [if_neg (Nat.not_lt.mpr hge), if_pos ho]
    have hback : ({ back with choices := s.choices + 1 } : State) = w.tie.2.enter .pull := by
      rw [← show v.choices = s.choices from hchoices]
      rfl
    have hstay : ({ w with choices := s.choices + 1 } : State) = w.tie.2 := by
      rw [← show v.choices = s.choices from hchoices]
      rfl
    rw [hback, hstay]
    cases w.tie.1 with
    | true => exact .inl rfl
    | false => exact .inr rfl

end Sys2Proof.Machine
end

section
/-! Lines close and settle, the seek completes, and the owed steps. -/

namespace Sys2Proof.Machine

variable {s t : State}

/-! ### Owed steps (R39, R102) -/

/-- What is owed is taken before the row, and taken it is owed no more (log 6). -/
theorem exec_caughtUp {c : Instr} (hs : s.resetHeld = false) (hc : c ≠ .powerResetEnd) :
    exec c s = exec c s.caughtUp := by
  by_cases hp : ∃ b d st, c = .powerReset b d st
  · obtain ⟨b, d, st, rfl⟩ := hp
    show execPowerReset b d st s = execPowerReset b d st s.caughtUp
    simp [execPowerReset]
  · have hevent : IsEvent c := ⟨fun b d st h => hp ⟨b, d, st, h⟩, hc⟩
    simp [exec_eq_eventOr hevent, eventOr_eq, hs, State.caughtUp_caughtUp]

theorem State.expireHoldover_of_owed (h : s.loop.holdoverOwed = true) :
    s.expireHoldover = (s.entered .seek).withCauses 0x0004 := by
  unfold State.expireHoldover
  rw [if_pos h, State.enter_seek]
  rfl

theorem State.expireDwell_of_owed (h : s.title.dwellOwed = true) : s.expireDwell = s.advanceChain := if_pos h

/-- With no dwell owed the row takes the expiry of the holdover, once. -/
theorem exec_holdoverExpired (hs : s.resetHeld = false) (hd : s.title.dwellOwed = false) :
    exec .holdoverExpired s = .next s.expireHoldover.drive := by
  have hcaught : s.caughtUp = s.expireHoldover := by
    unfold State.caughtUp
    rw [State.expireDwell_of_not_owed hd]
  rw [exec_caughtUp (c := .holdoverExpired) hs nofun, exec_unowed (c := .holdoverExpired) ⟨nofun, nofun⟩
    ⟨s.caughtUp_resetHeld.trans hs, s.caughtUp_owes_nothing⟩]
  show Host.Outcome.next s.caughtUp.expireHoldover.drive = _
  rw [State.expireHoldover_of_not_owed s.caughtUp_owes_nothing.2, hcaught]

/-- With no holdover owed the row takes the expiry of the dwell, once. -/
theorem exec_dwellExpired (hs : s.resetHeld = false) (hh : s.loop.holdoverOwed = false) :
    exec .dwellExpired s = .next s.expireDwell.drive := by
  have hcaught : s.caughtUp = s.expireDwell := State.expireHoldover_of_not_owed (by simpa using hh)
  rw [exec_caughtUp (c := .dwellExpired) hs nofun, exec_unowed (c := .dwellExpired) ⟨nofun, nofun⟩
    ⟨s.caughtUp_resetHeld.trans hs, s.caughtUp_owes_nothing⟩]
  show Host.Outcome.next s.caughtUp.expireDwell.drive = _
  rw [State.expireDwell_of_not_owed s.caughtUp_owes_nothing.1, hcaught]

/-- Settles O27: each of the two rows, with what it owes and without. -/
theorem owedSteps : Obligations.OwedSteps := by
  refine fun s hs => ⟨fun c hc => exec_caughtUp hs hc, fun hd => ?_, fun hh => ?_⟩
  · rw [exec_holdoverExpired hs hd]
    exact ⟨fun h => by rw [State.expireHoldover_of_owed h], fun h => by rw [State.expireHoldover_of_not_owed h]⟩
  · rw [exec_dwellExpired hs hh]
    refine ⟨fun h => by rw [State.expireDwell_of_not_owed h], fun h => ?_⟩
    rw [State.expireDwell_of_owed h]
    unfold State.advanceChain
    refine ⟨fun ha => ?_, fun i ha => ⟨fun j hj => ?_, fun hn => ?_⟩⟩
    · rw [ha]
      rfl
    · simp only [ha, hj]
      rfl
    · simp only [ha, hn]
      rfl

/-! ### Lines close (R33, R39) -/

theorem State.gate_eq (s : State) :
    s.gate = if s.loop.state = .pull ∨ s.loop.state = .coast then s.gW else s.gN := by
  unfold State.gate
  cases s.loop.state <;> simp

/-- A line close is due of a valid prediction once the timebase has reached the last line's gate (R33). -/
theorem State.closeDue_eq {o : OpenLine} (hl : s.loop.lines.getLast? = some o) : s.closeDue =
    if s.loop.valid = true ∧
      ((if s.loop.state = .pull ∨ s.loop.state = .coast then s.gW else s.gN : Nat) : Int) ≤ (s.timebase - o.pred).toInt
    then some o.pred else none := by
  unfold State.closeDue
  rw [hl, ← State.gate_eq]
  rfl

theorem Loop.holdoverOwed_cleared {l : Loop} (h : l.holdoverOwed = false) : { l with holdoverOwed := false } = l := by
  cases l
  subst h
  rfl

/-- The holdover count of a line close, with none owed before it (R39). -/
theorem State.countHoldover_eq (h : s.loop.holdoverOwed = false) : s.countHoldover = { s with loop := { s.loop with
    holdCount := if s.loop.state = .coast then s.loop.holdCount + 1 else s.loop.holdCount
    holdoverOwed := decide (s.loop.state = .coast ∧ s.hHold ≤ s.loop.holdCount + 1) } } := by
  unfold State.countHoldover
  by_cases hc : s.loop.state = .coast
  · simp [hc, State.onLoop]
  · simp only [hc, if_false, false_and, decide_false]
    rw [Loop.holdoverOwed_cleared h]

theorem State.look_loop (d : Domain) (n : Nat) (p : Parity) (t : Time) (s : State) :
    (s.look d n p t).loop = s.loop := by simp

/-- The state in which the last line, `o`, has closed and its start event has been counted (R12, R33). -/
def State.lineCounted (o : OpenLine) (s : State) : State := { s with
  loop := { s.loop with lines := s.loop.lines.dropLast ++
    [{ o with closed := true },
     { line := o.line + 1
       pred := later s.loop.base (roundDiv ((o.line + 1 - s.loop.baseLine) * s.loop.pb16) 16)
       closed := false, edge := false, excused := false, candidate := false }] }
  front := { s.front with
    lineTime := some o.pred
    line := if s.front.lineValid then (if s.frameLines ≤ s.front.line then 1 else s.front.line + 1) else s.front.line
    accum := { s.front.accum with lines := min 65535 (s.front.accum.lines + 1) } } }

theorem State.closeLine_eq {o : OpenLine} (hl : s.loop.lines.getLast? = some o) :
    s.closeLine o.pred =
      (if s.front.lineValid = true then
        (s.lineCounted o).look .broadcast (s.lineCounted o).front.line s.front.parity o.pred
       else s.lineCounted o).countHoldover := by
  have hclose : (s.onLoop Loop.closeLast).onFront (FrontEnd.lineStart s.frameLines o.pred) = s.lineCounted o := by
    unfold State.onLoop Loop.closeLast
    rw [hl]
    rfl
  unfold State.closeLine State.broadcastLine
  dsimp only
  rw [show (s.onLoop Loop.closeLast).frameLines = s.frameLines from rfl, hclose]
  rfl

/-- Settles O25. -/
theorem lineCloses : Obligations.LineCloses := by
  intro now o s hs hl gate
  rw [exec_at (.lineClose now) (f := State.closeIfDue) hs ⟨nofun, nofun⟩ fun _ => rfl]
  have hdue : (s.at now).closeDue =
      if s.loop.valid = true ∧ (gate : Int) ≤ (now - o.pred).toInt then some o.pred else none :=
    State.closeDue_eq (s := s.at now) hl
  unfold State.closeIfDue
  rw [hdue]
  refine ⟨fun hno => ?_, fun hv hg => ?_⟩
  · rw [if_neg fun ⟨hv, hg⟩ => hno.elim (by simp [hv]) (not_lt.mpr hg)]
  · intro u v
    rw [if_pos ⟨hv, hg⟩]
    dsimp only
    rw [State.closeLine_eq (s := s.at now) hl]
    have hloop : v.loop = u.loop := by
      show (if s.front.lineValid = true then _ else _ : State).loop = _
      split
      · exact State.look_loop _ _ _ _ _
      · rfl
    have hhold : v.hHold = s.hHold := by
      have hsetup : v.setup = s.setup := by
        show (if s.front.lineValid = true then _ else _ : State).setup = _
        split
        · simp [u, State.at]
        · rfl
      simp [State.hHold, hsetup]
    have hcount := State.countHoldover_eq (s := v) (by rw [hloop]; exact hs.1.2.2)
    rw [hhold, hloop] at hcount
    refine (congrArg (fun x : State => Host.Outcome.next x.drive) hcount).trans ?_
    rw [hloop]

end Sys2Proof.Machine
end

section
/-! Lines settle, and the seek completes. -/

namespace Sys2Proof.Machine

variable {s t : State}

/-! ### Lines settle (R34, R38) -/

/-- A pulse is outstanding that began within the share of the oldest open line (R34). -/
theorem State.pulseOutstanding_iff {o b : OpenLine} {more : List OpenLine} (h : s.loop.lines = o :: more) :
    s.pulseOutstanding o b = true ↔ ∃ t ∈ s.front.pulse.toList ++ s.front.queue.map Pulse.lead,
      ¬ (t - s.loop.priorPred).toInt < (o.pred - t).toInt ∧ (t - o.pred).toInt < (b.pred - t).toInt := by
  unfold State.pulseOutstanding
  rw [List.any_eq_true]
  refine exists_congr fun t => and_congr_right fun _ => ?_
  rw [Bool.and_eq_true, Bool.not_eq_true', ← Bool.not_eq_true, Loop.isStray_iff h, beforeEnd, decide_eq_true_iff]
  rfl

/-- The oldest open line may settle where it is closed, past its share and without an outstanding pulse (R34). -/
theorem State.settleDue_eq {o b : OpenLine} {rest : List OpenLine} (h : s.loop.lines = o :: b :: rest) :
    s.settleDue = if s.loop.valid = true ∧ o.closed = true ∧
        ¬ (s.timebase - o.pred).toInt < (b.pred - s.timebase).toInt ∧ ¬ s.pulseOutstanding o b = true
      then some o else none := by
  unfold State.settleDue
  rw [h]
  simp [beforeEnd, Machine.sdiff, and_assoc]

/-- The state in which the oldest line has left the open lines (R34). -/
def State.dropOldest (o : OpenLine) (s : State) : State :=
  { s with loop := { s.loop with lines := s.loop.lines.tail, priorPred := o.pred } }

/-- The state in which a missed line has left the open lines and has been reported (R34). -/
def State.missedOldest (o : OpenLine) (s : State) : State :=
  ((s.dropOldest o).onAccum FieldMeasure.addMissed).addEdgeless

theorem State.settleAs_of_edge {o : OpenLine} (he : o.edge = true) (hc : o.candidate = false) :
    s.settleAs o = s.dropOldest o := by
  unfold State.settleAs
  rw [show o.result = .edge from if_pos (by simp [he, hc])]
  rfl

theorem State.settleAs_of_candidate {o : OpenLine} (hc : o.candidate = true) :
    s.settleAs o = (s.dropOldest o).addEdgeless := by
  have hresult : o.result = .candidate := by simp [OpenLine.result, hc]
  unfold State.settleAs
  rw [hresult]
  rfl

theorem State.settleAs_of_excused {o : OpenLine} (he : o.edge = false) (hc : o.candidate = false)
    (hx : o.excused = true) : s.settleAs o = ((s.dropOldest o).onAccum FieldMeasure.addExcused).addEdgeless := by
  have hresult : o.result = .excused := by simp [OpenLine.result, he, hc, hx]
  unfold State.settleAs
  rw [hresult]
  rfl

theorem State.settleAs_of_missed {o : OpenLine} (he : o.edge = false) (hc : o.candidate = false)
    (hx : o.excused = false) : s.settleAs o = (s.missedOldest o).countMissed := by
  have hresult : o.result = .missed := by simp [OpenLine.result, he, hc, hx]
  unfold State.settleAs
  rw [hresult]
  rfl

/-- The entry of COAST, where no holdover is owed (R21). -/
theorem State.enter_coast_of_not_owed (h : s.loop.holdoverOwed = false) : s.enter .coast = { s with
    loop := { s.loop with
      state := .coast, inc := clamp s.iMin s.iMax s.loop.freq, returnCount := 0, holdCount := 0, candidates := [] }
    synth := { s.synth with handed := clamp s.iMin s.iMax s.loop.freq } } := by
  rw [State.enter_coast]
  congr 1
  rw [← h]

/-- A missed line's counts by the state in force, with COAST at M_coast from PULL and LOCKED (R34, R38). -/
theorem State.countMissed_eq {run : Nat} (hrun : run = s.loop.missedRun + 1) : s.countMissed =
    if s.loop.state = .pull then
      if run < s.mCoast then { s with loop := { s.loop with missedRun := run, lockCount := 0 } }
      else ({ s with loop := { s.loop with missedRun := run, lockCount := 0 } } : State).enter .coast
    else if s.loop.state = .locked then
      if run < s.mCoast then { s with loop := { s.loop with missedRun := run } }
      else ({ s with loop := { s.loop with missedRun := run } } : State).enter .coast
    else if s.loop.state = .coast then { s with loop := { s.loop with returnCount := 0 } }
    else s := by
  subst hrun
  unfold State.countMissed
  cases hst : s.loop.state
  case pull | locked =>
    simp only [← Nat.not_le, reduceCtorEq, if_true, if_false]
    rw [ite_not]
    rfl
  all_goals simp [State.onLoop]

/-- Settles O26. -/
theorem lineSettles : Obligations.LineSettles := by
  intro now o b rest s hs hl inShare pulses
  rw [exec_at (.lineSettle now) (f := State.settleIfDue) hs ⟨nofun, nofun⟩ fun _ => rfl]
  have hout : (s.at now).pulseOutstanding o b = true ↔ ∃ t ∈ pulses, inShare t :=
    State.pulseOutstanding_iff (s := s.at now) hl
  unfold State.settleIfDue
  rw [State.settleDue_eq (s := s.at now) hl]
  refine ⟨fun hno => ?_, fun hv hc hpast hnone => ?_⟩
  · rw [if_neg]
    rintro ⟨hv, hc, hpast, hnone⟩
    obtain h | h | h | h := hno
    · exact absurd hv (by simp [h, State.at])
    · exact absurd hc (by simp [h])
    · exact hpast h
    · exact hnone (hout.mpr h)
  · rw [if_pos ⟨hv, hc, hpast, fun h => by
      obtain ⟨t, ht, hin⟩ := hout.mp h
      exact hnone t ht hin⟩]
    intro u more v w run coast
    have hdrop : (s.at now).dropOldest o = u := by
      show ({ s.at now with loop := { s.loop with lines := s.loop.lines.tail, priorPred := o.pred } } : State) = _
      rw [hl]
      rfl
    refine ⟨fun he hcand => ?_, fun hcand => ?_, fun he hcand hx => ?_, fun he hcand hx => ?_⟩
    · dsimp only
      rw [State.settleAs_of_edge he hcand, hdrop]
    · dsimp only
      rw [State.settleAs_of_candidate hcand, hdrop]
      rfl
    · dsimp only
      rw [State.settleAs_of_excused he hcand hx, hdrop]
      rfl
    · dsimp only
      have hmissed : (s.at now).missedOldest o = w := by
        unfold State.missedOldest
        rw [hdrop]
        rfl
      rw [State.settleAs_of_missed he hcand hx, hmissed, State.countMissed_eq (s := w) (run := run) rfl,
        State.enter_coast_of_not_owed (by exact hs.1.2.2), State.enter_coast_of_not_owed (by exact hs.1.2.2)]
      rfl



/-! ### The seek completes (R46, R47, R54, R55) -/

/-- The start of the prediction: the base line is the closing edge, and the first open line is the one after it (R47). -/
def State.engaged (edge : Time) (r : Nat) (s : State) : State := { s with
  loop := { s.loop with
    state := .pull, freq := r, inc := r, lockCount := 0, missedRun := 0, candidates := []
    valid := true, base := edge, baseLine := 0, refTime := edge, refLine := 0, priorPred := edge
    seek := { s.loop.seek with inFlight := false }
    lines := [{ line := 1, pred := later edge (roundDiv s.loop.pb16 16), closed := false, edge := false,
                excused := false, candidate := false }] }
  synth := { s.synth with handed := r } }

/-- The entry of PULL, where no holdover is owed (R21). -/
theorem State.enter_pull_of_not_owed (h : s.loop.holdoverOwed = false) : s.enter .pull = { s with loop := { s.loop with
    state := .pull, lockCount := 0, missedRun := 0, candidates := [] } } := by
  rw [State.enter_pull]
  congr 1
  rw [← h]

theorem State.clampInc_of_mem {r : Nat} (h : s.iMin ≤ r ∧ r ≤ s.iMax) : s.clampInc (r : Int) = r := by
  simp only [State.clampInc, clampInt, Int.toNat_natCast, clamp]
  omega

theorem State.acceptSeek_eq {r : Nat} (ho : s.loop.holdoverOwed = false) (hr : s.loop.seek.result s.loop.pb16 = r)
    (h : s.iMin ≤ r ∧ r ≤ s.iMax) : s.acceptSeek =
      (s.engaged (s.loop.seek.prev.getD 0) r).closePassed
        (closesFor s.loop.pb16 (s.timebase - s.loop.seek.prev.getD 0).toNat) := by
  have hfreq : (s.onLoop fun l => { l with freq := r }).handInc r =
      (s.onLoop fun l => { l with freq := r }).handed r := by
    rw [State.handInc_eq, State.clampInc_congr (s := s) (by simp), State.clampInc_of_mem h]
  have hengage : (((s.onLoop fun l => { l with freq := r }).handed r).enter .pull).onLoop
      (Loop.engage (s.loop.seek.prev.getD 0)) = s.engaged (s.loop.seek.prev.getD 0) r := by
    have hone : roundDiv s.loop.pb16 16 = roundDiv ((1 - 0) * s.loop.pb16) 16 := by rw [Nat.sub_zero, Nat.one_mul]
    rw [State.enter_pull_of_not_owed (by simpa using ho)]
    unfold State.engaged
    rw [hone]
    rfl
  unfold State.acceptSeek
  dsimp only
  rw [hr, hfreq, hengage]
  rfl

theorem State.closePassed_of_none (h : s.closeDue = none) (n : Nat) : s.closePassed n = s := by
  cases n with
  | zero => rfl
  | succ n =>
    unfold State.closePassed
    rw [h]

/-- The rule by which a line close is due (R33). -/
theorem State.closeDue_iff (s : State) (t : Time) : s.closeDue = some t ↔
    ∃ o, s.loop.lines.getLast? = some o ∧ t = o.pred ∧ s.loop.valid = true ∧
      ((if s.loop.state = .pull ∨ s.loop.state = .coast then s.gW else s.gN : Nat) : Int) ≤
        (s.timebase - o.pred).toInt := by
  cases hl : s.loop.lines.getLast? with
  | none => simp [State.closeDue, hl]
  | some o =>
    rw [State.closeDue_eq hl]
    constructor
    · intro h
      obtain ⟨⟨hv, hg⟩, rfl⟩ := Option.ite_none_right_eq_some.mp h |>.imp_right (Eq.symm ∘ Option.some.inj)
      exact ⟨o, rfl, rfl, hv, hg⟩
    · rintro ⟨o', ho, rfl, hv, hg⟩
      obtain rfl := Option.some.inj ho
      exact if_pos ⟨hv, hg⟩

theorem State.completeSeek_of_not_due (h : s.loop.seek.inFlight = false ∨ s.loop.seek.lineStarts < 2) :
    s.completeSeek = s :=
  if_neg fun hd => by
    obtain ⟨hf, hn⟩ : s.loop.seek.inFlight = true ∧ 2 ≤ s.loop.seek.lineStarts := by simpa [State.seekDue] using hd
    exact h.elim (by simp [hf]) (Nat.not_lt.mpr hn)

theorem State.completeSeek_of_due {r : Nat} (hf : s.loop.seek.inFlight = true) (hn : 2 ≤ s.loop.seek.lineStarts)
    (hr : s.loop.seek.result s.loop.pb16 = r) :
    s.completeSeek = if s.iMin ≤ r ∧ r ≤ s.iMax then s.acceptSeek else s.discardSeek := by
  subst hr
  exact if_pos (by simp [State.seekDue, hf, hn])

theorem State.at_self (s : State) : s.at s.timebase = s := by simp [State.at]

/-- Settles O24: the result's range, and the closes that R47 asks for. -/
theorem seekCompletes : Obligations.SeekCompletes := by
  refine ⟨fun s r hs => ?_, fun u t n => ⟨rfl, fun h => State.closePassed_of_none h _, fun h => ?_,
    State.closeDue_iff u t, fun hu h => ?_⟩⟩
  · have hexec : exec .seekComplete s = .next s.completeSeek.drive :=
      exec_unowed (c := .seekComplete) ⟨nofun, nofun⟩ hs
    rw [hexec]
    refine ⟨fun h => by rw [State.completeSeek_of_not_due h], fun hf hn hr => ?_⟩
    · have hresult : s.loop.seek.result s.loop.pb16 = r := hr.symm
      rw [State.completeSeek_of_due hf hn hresult]
      refine ⟨fun hout => by rw [if_neg hout]; rfl, fun hlo hhi => ?_⟩
      rw [if_pos ⟨hlo, hhi⟩, State.acceptSeek_eq hs.2.2 hresult ⟨hlo, hhi⟩]
      intro edge u
      refine ⟨fun hnone => by rw [State.closePassed_of_none (s := s.engaged edge r) hnone]; rfl, _, rfl, fun h1 h2 => ?_⟩
      have hcloses : closesFor s.loop.pb16 (s.timebase - edge).toNat = 16 * ((s.timebase - edge).toNat + 1) :=
        if_neg (by omega)
      rw [hcloses]
      exact State.closePassed_closeDue (s.timebase - edge).toNat edge s.loop.pb16 h1 h2 (BitVec.isLt _) _ u 1 rfl rfl
        rfl rfl rfl ⟨_, rfl, rfl, by rw [Nat.one_mul]; rfl⟩ (by omega) (by omega) le_rfl
  · rw [State.closePassed, h]
  · rw [exec_at (.lineClose u.timebase) (f := State.closeIfDue) hu ⟨nofun, nofun⟩ fun _ => rfl, State.at_self]
    unfold State.closeIfDue
    rw [h]

end Sys2Proof.Machine
end

section
/-! Loop commands, ACK, and the delivery of the queue. -/

namespace Sys2Proof.Machine

variable {s t : State} {small : Byte} {arg : Word} {rest : List Command}

/-! ### A command at the head of the queue -/

/-- The row of a command at the head that need not wait: its owner judges it with the command gone from the queue, and
the state it gives, but for the queue, takes the verdict (R166, R168). -/
theorem Command.exec_row_of_owner (c : Command) {v : Verdict} (h : s.Heads c rest) (hw : s.mustWait c = false)
    (hj : c.judge (s.withQueue rest) = (v, t.withQueue rest)) :
    exec c.row s = .next (t.afterCommand c.code rest v).drive := by
  have ht : s.takeCommand c.judge c rest = t.afterCommand c.code rest v := by
    rw [State.takeCommand_eq]
    change (c.judge (s.withQueue rest)).2.giveVerdict c (c.judge (s.withQueue rest)).1 = _
    rw [hj, State.giveVerdict_eq]
    rfl
  rw [Command.exec_row h hw, ht]

/-! ### The loop commands (R22 to R25, R88) -/

/-- The entry of FROZEN, in which I becomes F, where no holdover is owed (R21). -/
theorem State.enter_frozen_of_not_owed (h : s.loop.holdoverOwed = false) : s.enter .frozen = { s with
    loop := { s.loop with state := .frozen, inc := clamp s.iMin s.iMax s.loop.freq, candidates := [] }
    synth := { s.synth with handed := clamp s.iMin s.iMax s.loop.freq } } := by
  unfold State.enter
  dsimp only
  rw [State.incToFreq_eq, clamp_freq_congr (s := s) (by simp) (by simp [Loop.moveTo]), ← Loop.holdoverOwed_cleared h]
  rfl

theorem judgeRelease_of_off (h : s.loop.state = .off) : judgeRelease s = (.refusedState, s) := by
  unfold judgeRelease
  rw [h]

theorem judgeRelease_of_slew (h : s.loop.state = .slew) : judgeRelease s = (.accepted, s.onAlign Aligner.release) := by
  unfold judgeRelease
  rw [h]

theorem judgeRelease_of_locked (h : s.loop.state = .locked) : judgeRelease s =
    (.accepted, (s.enter .off).onAlign fun a => { a with released := some s.timebase }) := by
  unfold judgeRelease
  rw [h]

theorem judgeRelease_of_other (h1 : s.loop.state ≠ .off) (h2 : s.loop.state ≠ .slew) (h3 : s.loop.state ≠ .locked) :
    judgeRelease s = (.accepted, s.enter .off) := by
  unfold judgeRelease
  cases h : s.loop.state <;> first | exact absurd h h1 | exact absurd h h2 | exact absurd h h3 | rfl

theorem judgeFreeze_eq (s : State) : judgeFreeze s =
    if s.loop.state = .pull ∨ s.loop.state = .locked ∨ s.loop.state = .coast then (.accepted, s.enter .frozen)
    else (.refusedState, s) := by
  unfold judgeFreeze
  cases s.loop.state <;> simp

/-- Settles O28: each command by the loop states it is accepted in. -/
theorem loopCommands : Obligations.LoopCommands := by
  intro small arg rest s hf st freq
  have hgo (c : Command) : s.mustWait c = false := State.mustWait_of_not_inFlight hf
  refine ⟨fun h => ?_, fun h => ?_, fun h => ?_, fun h => ?_⟩
  · refine Eq.trans (b := exec (Command.row ⟨0x01, small, arg⟩) s) rfl ?_
    by_cases hst : st = .off
    · rw [if_pos hst]
      refine Command.exec_row_of_owner _ h (hgo _) ?_
      exact (if_pos hst : judgeEngage (s.withQueue rest) = _).trans (by rw [State.enter_seek]; rfl)
    · rw [if_neg hst]
      exact Command.exec_row_of_owner _ h (hgo _) (if_neg hst)
  · refine Eq.trans (b := exec (Command.row ⟨0x02, small, arg⟩) s) rfl ?_
    by_cases hoff : st = .off
    · rw [if_pos hoff]
      exact Command.exec_row_of_owner _ h (hgo _) (judgeRelease_of_off (s := s.withQueue rest) hoff)
    · rw [if_neg hoff]
      by_cases hslew : st = .slew
      · rw [if_pos hslew]
        exact Command.exec_row_of_owner _ h (hgo _) (judgeRelease_of_slew (s := s.withQueue rest) hslew)
      · rw [if_neg hslew]
        refine Command.exec_row_of_owner _ h (hgo _) ?_
        by_cases hlocked : st = .locked
        · rw [if_pos hlocked]
          refine (judgeRelease_of_locked (s := s.withQueue rest) hlocked).trans ?_
          rw [State.enter_off]
          rfl
        · rw [if_neg hlocked]
          refine (judgeRelease_of_other (s := s.withQueue rest) hoff hslew hlocked).trans ?_
          rw [State.enter_off]
          rfl
  · refine Eq.trans (b := exec (Command.row ⟨0x03, small, arg⟩) s) rfl ?_
    by_cases hst : st = .pull ∨ st = .locked ∨ st = .coast
    · rw [if_pos hst]
      refine Command.exec_row_of_owner _ h (hgo _) ((judgeFreeze_eq _).trans ((if_pos hst).trans ?_))
      rw [State.enter_frozen_of_not_owed (s := s.withQueue rest) h.1.2.2]
      rfl
    · rw [if_neg hst]
      exact Command.exec_row_of_owner _ h (hgo _) ((judgeFreeze_eq _).trans (if_neg hst))
  · refine Eq.trans (b := exec (Command.row ⟨0x04, small, arg⟩) s) rfl ?_
    by_cases hst : st = .frozen
    · rw [if_pos hst]
      refine Command.exec_row_of_owner _ h (hgo _) ((if_pos hst : judgeResume (s.withQueue rest) = _).trans ?_)
      rw [State.enter_coast_of_not_owed (s := s.withQueue rest) h.1.2.2]
      rfl
    · rw [if_neg hst]
      exact Command.exec_row_of_owner _ h (hgo _) (if_neg hst)

/-! ### ACK, and codes outside the table (R122, R166, R174) -/

/-- ACK clears what its mask names, sets FRAME MISMATCH again while it holds, and clears the raster source (R122, R174). -/
theorem judgeAck_eq (mask : Word) (s : State) : judgeAck mask s = (.accepted, { s with
    att := { s.att with causes := (s.att.causes &&& ~~~mask) |||
      (if mask.getLsbD 14 = true ∧ s.att.mismatch = true then 0x4000 else 0) }
    keyer := { s.keyer with rasterSource := s.keyer.rasterSource && !mask.getLsbD 13 } }) := by
  have hraster : Cause.rasterFault.isIn mask = mask.getLsbD 13 := rfl
  have hframe : Cause.frameMismatch.isIn mask = mask.getLsbD 14 := rfl
  unfold judgeAck
  dsimp only
  rw [hraster, hframe, show (mask.getLsbD 14 && s.att.mismatch) =
    decide (mask.getLsbD 14 = true ∧ s.att.mismatch = true) by simp, State.raiseIf_eq]
  cases mask.getLsbD 13 with
  | false =>
    rw [Bool.not_false, Bool.and_true]
    rfl
  | true =>
    rw [Bool.not_true, Bool.and_false]
    rfl

theorem knownCode_iff (code : Byte) : knownCode code = true ↔
    code ∈ [0x01, 0x02, 0x03, 0x04, 0x08, 0x10, 0x11, 0x12, 0x20, 0x21, 0x30, 0x40] := by
  unfold knownCode
  exact List.contains_iff_mem

theorem not_isLoop_of_unknown : ∀ code : Byte, knownCode code = false →
    (decide (1 ≤ code.toNat) && decide (code.toNat ≤ 4)) = false := by decide

/-- Settles O33. -/
theorem ackAndUnknown : Obligations.AckAndUnknown := by
  refine fun code small arg rest s => ⟨fun h => ?_, fun hc h => ?_, fun hc h => ?_⟩
  · exact Command.exec_row_of_owner ⟨0x40, small, arg⟩ h (State.mustWait_of_not_loop _ _ rfl)
      (judgeAck_eq arg (s.withQueue rest))
  · rw [← knownCode_iff, Bool.not_eq_true] at hc
    rw [exec_head (judge := judgeUnknown) (i := .unknownCommand code small arg) h
      (State.mustWait_of_not_loop _ _ (not_isLoop_of_unknown code hc)) (by simp [effect, hc]) ⟨nofun, nofun⟩]
    rw [State.takeCommand_eq, State.giveVerdict_eq]
    rfl
  · rw [← knownCode_iff] at hc
    rw [exec_unowed (c := .unknownCommand code small arg) ⟨nofun, nofun⟩ h]
    simp [effect, hc]

end Sys2Proof.Machine
end

section
/-! The delivery of the command queue. -/

namespace Sys2Proof.Machine

variable {s t : State} {c h : Command} {rest : List Command}

/-! ### Nothing is owed after a delivery (log 6) -/

theorem State.enter_holdoverOwed (st : LoopState) (s : State) : (s.enter st).loop.holdoverOwed = false := by
  cases st <;> simp [State.enter, State.incToFreq, State.handInc_eq, Loop.moveTo, Loop.disengage]

/-- Neither expiry is owed (R39, R102). -/
abbrev State.OwesNothing (s : State) : Prop := s.title.dwellOwed = false ∧ s.loop.holdoverOwed = false

theorem State.OwesNothing.enter (hs : s.OwesNothing) (st : LoopState) : (s.enter st).OwesNothing :=
  ⟨by simpa using hs.1, State.enter_holdoverOwed st s⟩

theorem State.OwesNothing.raiseIf (hs : s.OwesNothing) (b : Bool) (c : Cause) : (s.raiseIf b c).OwesNothing := by
  simpa [State.OwesNothing] using hs

theorem State.OwesNothing.advanceChain (hs : s.OwesNothing) : s.advanceChain.OwesNothing := by
  unfold State.advanceChain
  split
  · exact ⟨rfl, hs.2⟩
  · split <;> exact ⟨rfl, hs.2⟩

/-- The judging of a command leaves nothing owed. -/
theorem Command.judge_owes_nothing (c : Command) (hs : s.OwesNothing) : (c.judge s).2.OwesNothing := by
  refine Command.judge_induction (P := fun judge => (judge s).2.OwesNothing) c ?_ ?_ ?_ ?_ ?_ ?_ ?_ ?_ ?_ ?_ ?_ ?_ ?_
  · unfold judgeEngage
    split
    · exact hs.enter _
    · exact hs
  · unfold judgeRelease
    split
    · exact hs
    · exact hs
    · exact hs.enter _
    · exact hs.enter _
  · rw [judgeFreeze_eq]
    split
    · exact hs.enter _
    · exact hs
  · unfold judgeResume
    split
    · exact hs.enter _
    · exact hs
  · exact hs
  · intro small
    unfold judgeShow
    split
    · exact ⟨rfl, hs.2⟩
    · exact hs
  · exact ⟨rfl, hs.2⟩
  · unfold judgeAdvance
    split
    · exact hs
    · exact hs.advanceChain
  · intro small arg
    unfold judgeFade
    split
    · rw [State.fadeRamp_eq]
      exact hs
    · exact hs
  · intro small arg
    unfold judgeCut
    split
    · exact hs
    · exact hs
  · intro arg
    cases hr : s.ringMode with
    | true => simpa [judgeCountSet, hr, State.OwesNothing] using hs
    | false => simpa [judgeCountSet, hr, State.OwesNothing] using hs
  · intro arg
    rw [judgeAck_eq]
    exact hs
  · exact hs

/-- A command taken leaves nothing owed. -/
theorem State.takeCommand_unowed (hs : s.Unowed) (c : Command) (rest : List Command) :
    (s.takeCommand c.judge c rest).Unowed := by
  rw [State.takeCommand_eq]
  have hj := c.judge_owes_nothing (s := s.onBus fun b => { b with queue := rest }) hs.2
  exact ⟨by simpa using hs.1, by simpa using hj.1, by simpa using hj.2⟩

theorem State.takeCommand_queue (c : Command) (rest : List Command) (s : State) :
    (s.takeCommand c.judge c rest).bus.queue = rest := by
  simp [State.takeCommand, State.judged, State.giveVerdict]

/-- A command taken leaves the instant and the resets as they were. -/
theorem State.takeCommand_frame (c : Command) (rest : List Command) (s : State) :
    (s.takeCommand c.judge c rest).timebase = s.timebase ∧
      (s.takeCommand c.judge c rest).listening = s.listening := by
  simp [State.takeCommand, State.judged, State.listening]

/-- The head waits exactly where it is a loop command and a seek computation is in flight (R26, R167). -/
theorem State.mustWait_iff (c : Command) (s : State) : s.mustWait c = true ↔
    (c.code = 0x01 ∨ c.code = 0x02 ∨ c.code = 0x03 ∨ c.code = 0x04) ∧ s.loop.seek.inFlight = true := by
  have hcodes : ∀ code : Byte, (decide (1 ≤ code.toNat) && decide (code.toNat ≤ 4)) = true ↔
      code = 0x01 ∨ code = 0x02 ∨ code = 0x03 ∨ code = 0x04 := by decide
  unfold State.mustWait Command.isLoop
  rw [Bool.and_eq_true, hcodes]

theorem State.listening_of_unowed (hs : s.Unowed) (hb : s.bresetHeld = false) : s.listening = true := by
  simp [State.listening, hs.1, hb]

/-! ### The row of a command, by the head of the queue (R26, R166, R167) -/

/-- While BRESET# is held there is no command (R171). -/
theorem State.deliverInTurn_of_breset (hb : s.bresetHeld = true) (judge : State → Verdict × State) (c : Command) :
    s.deliverInTurn judge c = s := by
  simp [State.deliverInTurn, State.listening, hb]

/-- A command presented to an empty queue joins it and is taken as its head (R166). -/
theorem State.deliverInTurn_of_empty (hl : s.listening = true) (hq : s.bus.queue = []) (judge : State → Verdict × State) (c : Command) :
    s.deliverInTurn judge c = (s.onBus fun b => { b with queue := [c] }).deliverInTurn judge c := by
  have hwait : (s.onBus fun b => { b with queue := [c] }).mustWait c = s.mustWait c := rfl
  unfold State.deliverInTurn
  rw [if_pos hl, if_pos (show (s.onBus fun b => { b with queue := [c] }).listening = true from hl)]
  simp only [hq, State.onBus_bus, State.serveUntil, beq_self_eq_true, Bool.true_or, if_true, State.deliver, hwait,
    true_and]
  cases s.mustWait c <;> rfl

/-- Behind a head that must wait no command is in its turn (R26, R167). -/
theorem State.deliverInTurn_of_wait (hq : s.bus.queue = h :: rest) (hw : s.mustWait h = true)
    (judge : State → Verdict × State) (c : Command) : s.deliverInTurn judge c = s := by
  unfold State.deliverInTurn
  split
  · simp only [hq, State.serveUntil, hw, Bool.or_true, if_true, State.deliver]
    rw [if_neg]
    rintro ⟨rfl, hn⟩
    simp [hw] at hn
  · rfl

/-- Ahead of the command of a row, the head is delivered (R166). -/
theorem State.deliverInTurn_of_behind (hs : s.Heads h rest) (hw : s.mustWait h = false) (hc : c ≠ h)
    (judge : State → Verdict × State) :
    s.deliverInTurn judge c = (s.takeCommand h.judge h rest).deliverInTurn judge c := by
  have hstop : (h == c) = false := beq_false_of_ne (Ne.symm hc)
  unfold State.deliverInTurn
  rw [(State.takeCommand_frame h rest s).2, State.takeCommand_queue, hs.2.2]
  simp only [State.serveUntil, hstop, hw, Bool.or_self, Bool.false_eq_true, if_false]
  rw [State.listening_of_unowed hs.1 hs.2.1, if_pos rfl, if_pos rfl]

/-- With a head that can be delivered, what is delivered after it is what stands behind it (R166). -/
theorem State.serve_takeCommand (hs : s.Heads h rest) (hw : s.mustWait h = false) :
    (s.takeCommand h.judge h rest).serve = s.serve := by
  rw [State.serve_cons hs hw]
  unfold State.serve
  rw [(State.takeCommand_frame h rest s).2, State.listening_of_unowed hs.1 hs.2.1, if_pos rfl, State.takeCommand_queue]

/-- A row of a later instant and a bus cycle find the queue delivered (R166, log 15). -/
theorem effect_of_servesFirst {i : Instr} (hi : i.servesFirst s.timebase = true) (ht : t.timebase = s.timebase)
    (h : t.serve = s.serve) : effect i t = effect i s := by
  have hmove {now : Time} (hn : (now != s.timebase) = true) : t.moveOn now = s.moveOn now := by
    have hne : ¬ now = s.timebase := by simpa using hn
    unfold State.moveOn
    rw [ht, if_neg hne, if_neg hne, h]
  cases i
  case acceptedFall | acceptedRise | pulseSaturation | lineClose | lineSettle | localLineStart | cuePulse
    | cueFallAccepted | synthesiserCarry | csyncLevelChange | cueLevelChange =>
    simp only [effect, hmove hi]
  case capturedWrite | structuralSetupWrite | fieldCounterModeWrite | enableMaskWrite | reportSummaryRead
    | displayFetch => simp only [effect, h]
  all_goals cases hi

/-- Settles O29. -/
theorem commandsInTheirTurn : Obligations.CommandsInTheirTurn := by
  intro c s hs
  have hrow (c : Command) {u : State} (hu : u.Unowed) : exec c.row u = .next (u.deliverInTurn c.judge c).drive := by
    rw [exec_unowed c.row_effect.2 hu, c.row_effect.1]
  refine ⟨fun hb => ?_, fun hb hq => ?_, fun h rest hh => ?_⟩
  · rw [hrow c hs, State.deliverInTurn_of_breset hb]
  · rw [hrow c hs, State.deliverInTurn_of_empty (State.listening_of_unowed hs hb) hq]
    exact (hrow c (u := s.onBus fun b => { b with queue := [c] }) hs).symm
  · intro waits
    have hwaits : s.mustWait h = true ↔ waits := State.mustWait_iff h s
    refine ⟨fun hw => ?_, fun hw => ?_⟩
    · rw [hrow c hs, State.deliverInTurn_of_wait hh.2.2 (hwaits.mpr hw)]
    · have hgo : s.mustWait h = false := by rw [← Bool.not_eq_true, hwaits]; exact hw
      have hu := State.takeCommand_unowed hs h rest
      refine ⟨s.takeCommand h.judge h rest, Command.exec_row hh hgo, ?_, fun hc => ?_, fun i hi => ?_⟩
      · exact State.takeCommand_queue h rest s
      · rw [hrow c hs, hrow c hu, State.deliverInTurn_of_behind hh hgo hc]
      · have hevent : IsEvent i := ⟨fun _ _ _ he => (by subst he; cases hi), fun he => (by subst he; cases hi)⟩
        rw [exec_unowed hevent hs, exec_unowed hevent hu,
          effect_of_servesFirst hi (State.takeCommand_frame h rest s).1 (State.serve_takeCommand hh hgo)]

end Sys2Proof.Machine
end

section
/-! Bus cycles: captured writes and report reads. -/

namespace Sys2Proof.Machine

variable {s t : State} {a : Addr} {w : Word} {l : Lanes} {o : Nat}

/-! ### The places of the cue area (section 9.3) -/

theorem placeOf_structural (h : o ≤ 0x00B) : placeOf o = .structural o := if_pos h

theorem placeOf_liveLoop (h : 0x00C ≤ o ∧ o ≤ 0x01F) : placeOf o = .liveLoop o := by
  unfold placeOf
  rw [if_neg (by omega), if_pos h.2]

theorem placeOf_counterMode (h : 0x02A ≤ o ∧ o ≤ 0x02B) : placeOf o = .counterMode (o - 0x020) := by
  unfold placeOf
  rw [if_neg (by omega), if_neg (by omega), if_pos (by omega)]

theorem placeOf_aux (h : 0x020 ≤ o ∧ o ≤ 0x03F) (h1 : o ≠ 0x02A) (h2 : o ≠ 0x02B) : placeOf o = .aux (o - 0x020) := by
  unfold placeOf
  rw [if_neg (by omega), if_neg (by omega), if_neg (by omega), if_pos h.2]

theorem placeOf_rampRecord (h : 0x040 ≤ o ∧ o ≤ 0x047) : placeOf o = .rampRecord (o - 0x040) := by
  unfold placeOf
  rw [if_neg (by omega), if_neg (by omega), if_neg (by omega), if_neg (by omega), if_pos h.2]

theorem placeOf_windowSet (h : 0x100 ≤ o ∧ o ≤ 0x1FF) : placeOf o = .windowSet (o - 0x100) := by
  unfold placeOf
  rw [if_neg (by omega), if_neg (by omega), if_neg (by omega), if_neg (by omega), if_neg (by omega), if_neg (by omega),
    if_pos h]

theorem placeOf_cueTable (h : 0x200 ≤ o ∧ o ≤ 0x2A3) : placeOf o = .cueTable (o - 0x200) := by
  unfold placeOf
  rw [if_neg (by omega), if_neg (by omega), if_neg (by omega), if_neg (by omega), if_neg (by omega), if_neg (by omega),
    if_neg (by omega), if_pos h]

/-! ### Filter widths (R2, R153, log 38) -/

/-- A new width leaves the old one to judge a run in progress at the present tick. -/
theorem Filter.takeWidth_eq (width : Nat) (now : Time) (f : Filter) : f.takeWidth width now = { f with
    hold := if f.run = none then f.hold
      else match f.hold with
        | some (t, old) => some (now, if t = now then old else width)
        | none => some (now, width) } := by
  unfold Filter.takeWidth Filter.widthAt
  cases hr : f.run with
  | none => cases f; subst hr; rfl
  | some r => cases f.hold <;> rfl

/-! ### Captured writes (R160, R161) -/

/-- A write of the auxiliary setup but of the CUE filter width. -/
theorem State.writeAux_of_ne {i : Nat} (hi : i < 32) (h8 : i ≠ 8) (w : Word) (l : Lanes) (s : State) :
    s.writeAux i w l = { s with setup := { s.setup with aux := s.setup.aux.set i (BitVec.ofNat 16
      ((if l.high then w.toNat / 256 else s.setup.aux[i].toNat / 256) * 256 +
        (if l.low then w.toNat % 256 else s.setup.aux[i].toNat % 256))) } } := by
  unfold State.writeAux State.onSetup
  dsimp only
  rw [if_neg h8, writeAt_eq _ _ hi]

/-- Settles O35: each captured word, by its place. -/
theorem capturedWrites : Obligations.CapturedWrites := by
  intro a o w l s hs hb ha u lanes
  have hexec (ho : o ≤ 2047) := exec_capturedWrite_of_mem w l hs hb ha ho
  refine ⟨fun h => ?_, fun h h1 h2 h3 => ?_, fun h => ?_, fun h => ?_, fun h => ?_, fun h => ?_, fun h => ?_⟩
  · rw [hexec (by omega), placeOf_liveLoop h]
    unfold State.capturePlace State.writeLoop State.onSetup
    dsimp only
    rw [writeAt_eq _ _ (by omega)]
    rfl
  · rw [hexec (by omega), placeOf_aux h h1 h2]
    unfold State.capturePlace
    dsimp only
    rw [State.writeAux_of_ne (by omega) (by omega)]
    rfl
  · subst h
    rw [hexec (by omega), placeOf_aux (by omega) (by omega) (by omega)]
    unfold State.capturePlace State.writeAux State.holdCue State.onSetup State.onCue
    dsimp only
    rw [Filter.takeWidth_eq, if_pos rfl, writeAt_eq _ _ (by omega)]
    rfl
  · rw [hexec (by omega), placeOf_rampRecord h]
    unfold State.capturePlace State.writeRampRecord State.onTitle
    dsimp only
    rw [writeAt_eq _ _ (by omega)]
    rfl
  · rw [hexec (by omega), placeOf_windowSet h]
    unfold State.capturePlace State.writeWindowSet State.onTitle
    dsimp only
    rw [writeAt_eq _ _ (by omega)]
    rfl
  · rw [hexec (by omega), placeOf_cueTable h]
    unfold State.capturePlace State.writeCueTable State.onCue
    dsimp only
    rw [writeAt_eq _ _ (by omega)]
    rfl
  · subst h
    rw [hexec (by omega), show placeOf 0x7C0 = .argument from rfl]
    unfold State.capturePlace State.writeArg State.onBus
    dsimp only
    rw [mergeLanes_eq]
    rfl

/-! ### Structural writes (R48, R49, R77) -/

theorem State.onLoop_freq_handed (n : Nat) (s : State) : (s.onLoop fun l => { l with freq := n }).handed n = { s with
    loop := { s.loop with freq := n, inc := n }
    synth := { s.synth with handed := n } } := rfl

/-- A new range clamps F, and I becomes the same (R49). -/
theorem State.refitFreq_clamp {n : Nat} (hn : n = clamp s.iMin s.iMax s.loop.freq) : s.refitFreq = { s with
    loop := { s.loop with freq := n, inc := n }
    synth := { s.synth with handed := n } } := by
  have hclamp : s.clampInc s.loop.freq = n := by rw [hn, State.clampInc, clampInt, Int.toNat_natCast]
  have hmem : s.clampInc n = n := State.clampInc_of_mem (hclamp ▸ State.clampInc_mem s _)
  have hnext : (s.onLoop fun l => { l with freq := n }).clampInc n = n :=
    (State.clampInc_congr (s := s) (State.onLoop_setup _ _) _).trans hmem
  rw [State.refitFreq_eq, hclamp, hnext, State.onLoop_freq_handed]

/-- FRAME MISMATCH is evaluated (R77, R173). -/
theorem State.handMismatch_eq {off : Bool} (s : State)
    (h : off = decide (s.raster.phase = .captured ∧ s.raster.frameLen ≠ some s.frameLines)) :
    s.handMismatch = { s with att := { s.att with
      causes := if off = true ∧ s.att.mismatch = false then s.att.causes ||| 0x4000 else s.att.causes
      mismatch := off } } := by
  have hoff : s.frameMismatch = off := by
    rw [h, Bool.eq_iff_iff]
    simp [State.frameMismatch]
  unfold State.handMismatch
  rw [hoff, show (off && !s.att.mismatch) = decide (off = true ∧ s.att.mismatch = false) by
    rw [Bool.eq_iff_iff]; simp, State.raiseIf_causes]
  rfl

/-- The state in which a structural word has been taken. -/
def State.withStructural (o : Nat) (ho : o < 32) (w : Word) (l : Lanes) (s : State) : State := { s with
  setup := { s.setup with loop := s.setup.loop.set o (BitVec.ofNat 16
    ((if l.high then w.toNat / 256 else s.setup.loop[o].toNat / 256) * 256 +
      (if l.low then w.toNat % 256 else s.setup.loop[o].toNat % 256))) } }

theorem State.writeStructural_of_off (h : s.loop.state = .off) (ho : o < 32) :
    s.writeStructural o w l =
      ((if o = 8 ∨ o = 9 then s.holdCsync else s).withStructural o ho w l).afterStructural o := by
  unfold State.writeStructural
  rw [if_pos h]
  dsimp only [State.onSetup]
  rw [writeAt_eq _ _ ho]
  rfl

theorem State.writeStructural_of_late (h : s.loop.state ≠ .off) :
    s.writeStructural o w l = s.withCauses 0x1000 := if_neg h

/-- Settles O37: late in every state but OFF, and in OFF by what the word brings about. -/
theorem structuralWrite : Obligations.StructuralWrite := by
  intro a o w l s ho hs hb ha u lanes v freq off width
  have hexec : exec (.structuralSetupWrite a w l) s = .next (u.writeStructural o w l).drive := by
    refine (exec_capturedWrite_of_mem w l hs hb ha (by omega)).trans ?_
    rw [placeOf_structural ho]
    rfl
  rw [hexec]
  refine ⟨fun h => by rw [State.writeStructural_of_late (s := u) h], fun hoff => ?_⟩
  rw [State.writeStructural_of_off (s := u) hoff (by omega)]
  unfold State.afterStructural
  refine ⟨fun h2 h5 => ?_, fun h => ?_, fun h => ?_, fun h => ?_⟩
  · rw [if_neg (show ¬ o = 0 by omega), if_pos ⟨h2, h5⟩, if_neg (by omega), State.refitFreq_clamp rfl]
    rfl
  · rw [if_pos h, if_neg (by omega), State.handMismatch_eq (off := off) _ rfl]
    rfl
  · rw [if_neg (show ¬ o = 0 by omega), if_neg (by omega), if_pos h]
    have hwidth : u.csyncWidth = width := by
      show (match s.front.filter.accepted with | .high => u.fFall | .low => u.fRise) = width
      cases hacc : s.front.filter.accepted <;> simp only [width, hacc] <;> rfl
    unfold State.holdCsync State.onFront
    dsimp only
    rw [Filter.takeWidth_eq, hwidth]
    rfl
  · rw [if_neg (show ¬ o = 0 by omega), if_neg (show ¬ (2 ≤ o ∧ o ≤ 5) by omega), if_neg (by omega)]
    rfl

/-! ### The field counter's words, and the enable mask (R149, R150, R175) -/

/-- The counter is fitted to the mode and modulus in force (R149, R150). -/
theorem State.fitCounter_eq (s : State) : s.fitCounter = { s with cue := { s.cue with
    counter := if s.ringMode = true ∧ s.modulus ≤ s.cue.counter then s.modulus - 1 else s.cue.counter
    saturated := decide (s.ringMode = false ∧ s.cue.counter = 65535) } } := by
  have hpos := s.modulus_pos
  unfold State.fitCounter State.onCue CueUnit.countAt
  dsimp only
  cases hr : s.ringMode with
  | true =>
    have hmin : min s.cue.counter (s.modulus - 1) =
        if s.modulus ≤ s.cue.counter then s.modulus - 1 else s.cue.counter := by
      split <;> omega
    simp [hmin]
  | false => simp [Bool.beq_eq_decide_eq]

/-- Settles O38. -/
theorem counterModeWrite : Obligations.CounterModeWrite := by
  intro a o w l s ho hs hb ha lanes u
  have hexec : exec (.fieldCounterModeWrite a w l) s = .next u.fitCounter.drive := by
    refine (exec_capturedWrite_of_mem w l hs hb ha (by omega)).trans ?_
    rw [placeOf_counterMode ho]
    unfold State.capturePlace
    dsimp only
    rw [State.writeAux_of_ne (by omega) (by omega)]
    rfl
  rw [hexec, State.fitCounter_eq]

/-- Settles O39: the pins follow the state at the end of the cycle. -/
theorem enableMaskWrite : Obligations.EnableMaskWrite := by
  intro a w mask l s t hs hb ha hmask ht
  refine ⟨?_, t.drive_pinsTrue.1⟩
  refine (exec_capturedWrite_of_mem w l hs hb ha (by omega)).trans ?_
  rw [show placeOf 0x048 = .enableMask from rfl]
  unfold State.capturePlace State.writeEnable State.onAtt
  dsimp only
  rw [ht, hmask, mergeLanes_eq]
  rfl

end Sys2Proof.Machine
end

section
/-! Report reads, and the layout of the snapshot. -/

namespace Sys2Proof.Machine

variable {s t : State} {a : Addr} {o : Nat}

/-! ### Codes and words of the report block (11.5, R182) -/

theorem LoopState.code_le (st : LoopState) : st.code ≤ 6 := by cases st <;> decide

theorem Parity.code_le (p : Parity) : p.code ≤ 2 := by cases p <;> decide

theorem flag_le (b : Bool) : flag b ≤ 1 := by cases b <;> decide

theorem activeCode_le (i : Option (Fin 4)) : activeCode i ≤ 4 := by
  cases i with
  | none => decide
  | some i => exact i.isLt.le

theorem verdictCode_le (v : Option Verdict) : verdictCode v ≤ 4 := by
  rcases v with _ | v
  · decide
  · cases v <;> decide

theorem lastCueCode_le {i : Option Nat} (h : ∀ n, i = some n → n ≤ 39) : lastCueCode i ≤ 63 := by
  cases i with
  | none => exact le_rfl
  | some n => exact (h n rfl).trans (by decide)

theorem Origin.code_le {o : Origin} (h : ∀ n, o = .entry n → n ≤ 39) : o.code ≤ 63 := by
  cases o with
  | pulse => exact le_rfl
  | entry n => exact (h n rfl).trans (by decide)

theorem lowHalf_toNat (n : Nat) : (lowHalf n).toNat = n % 65536 := BitVec.toNat_ofNat ..

theorem reportWord_toNat (items : List Nat) : (reportWord items).toNat = items.sum % 65536 := BitVec.toNat_ofNat ..

/-! ### Reads (R162, R163, R177) -/

theorem attention_flag (s : State) : flag s.attention = if s.att.causes &&& s.att.enable = 0 then 0 else 1 := by
  by_cases h : s.att.causes &&& s.att.enable = 0 <;> simp [flag, State.attention, h]

/-- The live summary, as a number (R177). -/
theorem State.summary_eq (s : State) : s.summary = BitVec.ofNat 16
    (s.loop.state.code + 8 * flag s.front.lineValid + 16 * activeCode s.title.active + 128 * flag s.attention) := by
  have hstate := s.loop.state.code_le
  have hvalid := flag_le s.front.lineValid
  have hactive := activeCode_le s.title.active
  have hatt := flag_le s.attention
  unfold State.summary reportWord put
  congr 1
  simp only [List.sum_cons, List.sum_nil]
  omega

theorem exec_reportSummaryRead (hs : s.Ready) (a : Addr) (dram : ReadWord) :
    exec (.reportSummaryRead a dram) s = .next (s.cpuRead a dram).drive := by
  rw [exec_unowed (c := .reportSummaryRead a dram) ⟨nofun, nofun⟩ hs.1]
  show Host.Outcome.next (s.serve.cpuRead a dram).drive = _
  rw [State.serve_of_headWaits hs.2]

/-- A read of DRAM's own words, and every read while BRESET# is held (R159, R171). -/
theorem State.cpuRead_of_dram (dram : ReadWord)
    (h : s.bresetHeld = true ∨ a.toNat < s.bus.base.toNat + 0x7E0 ∨ s.bus.base.toNat + 0x7FF < a.toNat) :
    s.cpuRead a dram = (s.passCycle (.read a dram.lanes)).answer dram.word := by
  unfold State.cpuRead
  dsimp only
  split
  · rfl
  next hb =>
    split
    · rfl
    next o ho =>
      have ho' : a.toNat = s.bus.base.toNat + o ∧ o < 0x7E0 := by
        unfold State.offsetOf at ho
        split at ho
        · obtain rfl := Option.some.inj ho
          have := h.resolve_left hb
          omega
        · cases ho
      rw [if_neg (by omega), if_neg (by omega)]

/-- A read of the part's own report words (R162, R163). -/
theorem State.cpuRead_of_report (dram : ReadWord) (hb : s.bresetHeld = false) (ho : o ≤ 0x7FF)
    (ha : a.toNat = s.bus.base.toNat + o) : s.cpuRead a dram =
      if o = 0x7E0 then
        ((s.passCycle (.read a dram.lanes)).answer s.summary).onBus fun b => { b with snapshot := s.snapshotWords }
      else if 0x7E1 ≤ o then (s.passCycle (.read a dram.lanes)).answer (wordAt s.bus.snapshot (o - 0x7E1))
      else (s.passCycle (.read a dram.lanes)).answer dram.word := by
  unfold State.cpuRead
  rw [if_neg (by simp [hb]), State.offsetOf_of_mem ha (by omega)]

/-- Settles O40. -/
theorem reportReads : Obligations.ReportReads := by
  intro a dram o s hs u summary
  rw [exec_reportSummaryRead hs]
  refine ⟨fun h => by rw [State.cpuRead_of_dram dram h]; rfl, fun hb ha => ?_, fun ho hb ha => ?_⟩
  · have hsummary : s.summary = BitVec.ofNat 16 summary := by
      rw [State.summary_eq, attention_flag]
      rfl
    rw [State.cpuRead_of_report dram hb (by decide) ha, if_pos rfl, hsummary]
    rfl
  · have hword : wordAt s.bus.snapshot (o - 0x7E1) = s.bus.snapshot[o - 0x7E1] := by
      unfold wordAt
      rw [Vector.getElem?_eq_getElem (by omega), Option.getD_some]
    rw [State.cpuRead_of_report dram hb ho.2 ha, if_neg (by omega), if_pos ho.1, hword]
    rfl

end Sys2Proof.Machine
end

section
/-! The layout of the snapshot (11.6). -/

namespace Sys2Proof.Machine

variable (s : State)

/-! ### The words of one item (R182) -/

/-- The words that hold the low half of a wide item, or the whole of a narrow one. -/
theorem State.plain_words :
    (numAt s.snapshotWords 1 = s.loop.freq % 65536 ∧ numAt s.snapshotWords 2 = s.loop.inc % 65536 ∧
      numAt s.snapshotWords 5 = s.loop.pb16 % 65536 ∧ numAt s.snapshotWords 7 = s.align.distance % 65536) ∧
    (numAt s.snapshotWords 10 = s.cue.counter % 65536 ∧ numAt s.snapshotWords 11 = s.title.remaining % 65536) ∧
    (numAt s.snapshotWords 17 = s.front.last.accepted % 65536 ∧
      numAt s.snapshotWords 18 = s.front.last.missed % 65536 ∧
      numAt s.snapshotWords 19 = s.front.last.excused % 65536 ∧
      numAt s.snapshotWords 20 = s.front.last.candidates % 65536) ∧
    (numAt s.snapshotWords 22 = s.front.last.shortest % 65536 ∧
      numAt s.snapshotWords 23 = s.front.last.longest % 65536 ∧
      numAt s.snapshotWords 24 = s.front.last.lines % 65536) ∧
    numAt s.snapshotWords 25 = s.cue.latch.time.toNat % 65536 ∧
    numAt s.snapshotWords 26 = s.cue.latch.time.toNat / 65536 % 65536 :=
  ⟨⟨lowHalf_toNat _, lowHalf_toNat _, lowHalf_toNat _, lowHalf_toNat _⟩, ⟨lowHalf_toNat _, lowHalf_toNat _⟩,
    ⟨lowHalf_toNat _, lowHalf_toNat _, lowHalf_toNat _, lowHalf_toNat _⟩,
    ⟨lowHalf_toNat _, lowHalf_toNat _, lowHalf_toNat _⟩, lowHalf_toNat _, lowHalf_toNat _⟩

/-! ### The items of the packed words, and the bits that no item occupies (R178, R182) -/

theorem State.items_7E1 :
    let word := numAt s.snapshotWords 0
    word / 2 ^ 13 % 2 ^ 3 = s.loop.state.code ∧ word / 2 ^ 11 % 2 ^ 2 = s.front.parity.code ∧
      word / 2 ^ 10 % 2 ^ 1 = flag s.front.lineValid ∧ (s.front.line ≤ 625 → word / 2 ^ 0 % 2 ^ 10 = s.front.line) := by
  intro word
  have hword : word = _ := reportWord_toNat _
  simp only [put, List.sum_cons, List.sum_nil] at hword
  have := s.loop.state.code_le
  have := s.front.parity.code_le
  have := flag_le s.front.lineValid
  clear_value word
  refine ⟨by omega, by omega, by omega, by omega⟩

theorem State.items_7E4 :
    let word := numAt s.snapshotWords 3
    (s.loop.freq ≤ 8388607 → word / 2 ^ 0 % 2 ^ 7 = s.loop.freq / 65536) ∧
      (s.loop.inc ≤ 8388607 → word / 2 ^ 8 % 2 ^ 7 = s.loop.inc / 65536) ∧
      word / 2 ^ 15 % 2 ^ 1 = 0 ∧ word / 2 ^ 7 % 2 ^ 1 = 0 := by
  intro word
  have hword : word = _ := reportWord_toNat _
  simp only [put, List.sum_cons, List.sum_nil] at hword
  clear_value word
  refine ⟨by omega, by omega, by omega, by omega⟩

theorem State.items_7E7 :
    let word := numAt s.snapshotWords 6
    (s.loop.pb16 ≤ 1048560 → word / 2 ^ 0 % 2 ^ 4 = s.loop.pb16 / 65536) ∧
      (s.raster.frameLen.getD 0 ≤ 2048 → word / 2 ^ 4 % 2 ^ 12 = s.raster.frameLen.getD 0) := by
  intro word
  have hword : word = _ := reportWord_toNat _
  simp only [put, List.sum_cons, List.sum_nil] at hword
  clear_value word
  refine ⟨by omega, by omega⟩

theorem State.items_7E9 :
    let word := numAt s.snapshotWords 8
    (s.align.distance ≤ 1277952 → word / 2 ^ 0 % 2 ^ 5 = s.align.distance / 65536) ∧
      (s.align.level ≤ 256 → word / 2 ^ 5 % 2 ^ 9 = s.align.level) ∧ word / 2 ^ 14 % 2 ^ 2 = 0 := by
  intro word
  have hword : word = _ := reportWord_toNat _
  simp only [put, List.sum_cons, List.sum_nil] at hword
  clear_value word
  refine ⟨by omega, by omega, by omega⟩

theorem State.items_7EA :
    let word := numAt s.snapshotWords 9
    (s.raster.line ≤ 2047 → word / 2 ^ 0 % 2 ^ 11 = s.raster.line) ∧ word / 2 ^ 11 % 2 ^ 5 = 0 := by
  intro word
  have hword : word = _ := reportWord_toNat _
  simp only [put, List.sum_cons, List.sum_nil] at hword
  clear_value word
  refine ⟨by omega, by omega⟩

theorem State.items_7ED :
    let word := numAt s.snapshotWords 12
    word / 2 ^ 0 % 2 ^ 3 = activeCode s.title.active ∧ word / 2 ^ 3 % 2 ^ 1 = flag s.cue.saturated ∧
      (word / 2 ^ 4 % 2 ^ 1 = flag s.keyer.ramps[0].moving ∧ word / 2 ^ 5 % 2 ^ 1 = flag s.keyer.ramps[1].moving ∧
        word / 2 ^ 6 % 2 ^ 1 = flag s.keyer.ramps[2].moving ∧ word / 2 ^ 7 % 2 ^ 1 = flag s.keyer.ramps[3].moving) ∧
      (lastCueCode s.cue.lastCue ≤ 63 → word / 2 ^ 8 % 2 ^ 6 = lastCueCode s.cue.lastCue) ∧ word / 2 ^ 14 % 2 ^ 2 = 0 := by
  intro word
  have hword : word = _ := reportWord_toNat _
  simp only [put, List.sum_cons, List.sum_nil] at hword
  have := activeCode_le s.title.active
  have := flag_le s.cue.saturated
  have := flag_le s.keyer.ramps[0].moving
  have := flag_le s.keyer.ramps[1].moving
  have := flag_le s.keyer.ramps[2].moving
  have := flag_le s.keyer.ramps[3].moving
  clear_value word
  refine ⟨by omega, by omega, ⟨by omega, by omega, by omega, by omega⟩, by omega, by omega⟩

theorem State.items_7EE :
    let word := numAt s.snapshotWords 13
    (s.keyer.ramps[0].level ≤ 255 → word / 2 ^ 0 % 2 ^ 8 = s.keyer.ramps[0].level) ∧
      (s.keyer.ramps[1].level ≤ 255 → word / 2 ^ 8 % 2 ^ 8 = s.keyer.ramps[1].level) := by
  intro word
  have hword : word = _ := reportWord_toNat _
  simp only [put, List.sum_cons, List.sum_nil] at hword
  clear_value word
  refine ⟨by omega, by omega⟩

theorem State.items_7EF :
    let word := numAt s.snapshotWords 14
    (s.keyer.ramps[2].level ≤ 255 → word / 2 ^ 0 % 2 ^ 8 = s.keyer.ramps[2].level) ∧
      (s.keyer.ramps[3].level ≤ 255 → word / 2 ^ 8 % 2 ^ 8 = s.keyer.ramps[3].level) := by
  intro word
  have hword : word = _ := reportWord_toNat _
  simp only [put, List.sum_cons, List.sum_nil] at hword
  clear_value word
  refine ⟨by omega, by omega⟩

theorem State.items_7F1 :
    let word := numAt s.snapshotWords 16
    word / 2 ^ 8 % 2 ^ 8 = s.bus.lastCode.toNat ∧ word / 2 ^ 0 % 2 ^ 3 = verdictCode s.bus.lastVerdict ∧
      word / 2 ^ 3 % 2 ^ 5 = 0 := by
  intro word
  have hword : word = _ := reportWord_toNat _
  simp only [put, List.sum_cons, List.sum_nil] at hword
  have := s.bus.lastCode.isLt
  have := verdictCode_le s.bus.lastVerdict
  clear_value word
  refine ⟨by omega, by omega, by omega⟩

theorem State.items_7F6 :
    let word := numAt s.snapshotWords 21
    word / 2 ^ 12 % 2 ^ 2 = s.front.last.parity.code ∧
      (s.front.last.maxError ≤ 1023 → word / 2 ^ 0 % 2 ^ 10 = s.front.last.maxError) ∧ word / 2 ^ 14 % 2 ^ 2 = 0 ∧
      word / 2 ^ 10 % 2 ^ 2 = 0 := by
  intro word
  have hword : word = _ := reportWord_toNat _
  simp only [put, List.sum_cons, List.sum_nil] at hword
  have := s.front.last.parity.code_le
  clear_value word
  refine ⟨by omega, by omega, by omega, by omega⟩

theorem State.items_7FC :
    let word := numAt s.snapshotWords 27
    word / 2 ^ 15 % 2 ^ 1 = flag s.cue.latch.lineValid ∧ word / 2 ^ 10 % 2 ^ 3 = s.cue.latch.loopState.code ∧
      (s.cue.latch.line ≤ 625 → word / 2 ^ 0 % 2 ^ 10 = s.cue.latch.line) ∧ word / 2 ^ 13 % 2 ^ 2 = 0 := by
  intro word
  have hword : word = _ := reportWord_toNat _
  simp only [put, List.sum_cons, List.sum_nil] at hword
  have := flag_le s.cue.latch.lineValid
  have := s.cue.latch.loopState.code_le
  clear_value word
  refine ⟨by omega, by omega, by omega, by omega⟩

theorem State.items_7FD :
    let word := numAt s.snapshotWords 28
    (s.cue.latch.localLine ≤ 2047 → word / 2 ^ 0 % 2 ^ 11 = s.cue.latch.localLine) ∧ word / 2 ^ 11 % 2 ^ 5 = 0 := by
  intro word
  have hword : word = _ := reportWord_toNat _
  simp only [put, List.sum_cons, List.sum_nil] at hword
  clear_value word
  refine ⟨by omega, by omega⟩

theorem State.items_7FF :
    let word := numAt s.snapshotWords 30
    (s.cue.latch.seqCount ≤ 255 → word / 2 ^ 8 % 2 ^ 8 = s.cue.latch.seqCount) ∧
      (s.cue.latch.origin.code ≤ 63 → word / 2 ^ 0 % 2 ^ 6 = s.cue.latch.origin.code) ∧ word / 2 ^ 6 % 2 ^ 2 = 0 := by
  intro word
  have hword : word = _ := reportWord_toNat _
  simp only [put, List.sum_cons, List.sum_nil] at hword
  clear_value word
  refine ⟨by omega, by omega, by omega⟩

/-- Settles O41: each item from its word, and a wide one from its two words. -/
theorem snapshotLayout : Obligations.SnapshotLayout := by
  refine ⟨rfl, rfl, fun s => ?_⟩
  intro word field
  obtain ⟨⟨hfreqLow, hincLow, hpb16Low, hdistanceLow⟩, ⟨hcounter, hremaining⟩,
    ⟨haccepted, hmissed, hexcused, hcandidates⟩, ⟨hshortest, hlongest, hlines⟩, htimeLow, htimeHigh⟩ := s.plain_words
  obtain ⟨hstate, hparity, hvalid, hline⟩ := s.items_7E1
  obtain ⟨hfreq, hinc, hzero1, hzero2⟩ := s.items_7E4
  obtain ⟨hpb16, hframe⟩ := s.items_7E7
  obtain ⟨hdistance, hlevel, hzero3⟩ := s.items_7E9
  obtain ⟨hlocal, hzero4⟩ := s.items_7EA
  obtain ⟨hactive, hsaturated, ⟨hmoving0, hmoving1, hmoving2, hmoving3⟩, hcue, hzero5⟩ := s.items_7ED
  obtain ⟨hramp0, hramp1⟩ := s.items_7EE
  obtain ⟨hramp2, hramp3⟩ := s.items_7EF
  obtain ⟨hcode, hverdict, hzero6⟩ := s.items_7F1
  obtain ⟨hlastParity, herror, hzero7, hzero8⟩ := s.items_7F6
  obtain ⟨hlatchValid, hlatchState, hlatchLine, hzero9⟩ := s.items_7FC
  obtain ⟨hlatchLocal, hzero10⟩ := s.items_7FD
  obtain ⟨hseq, horigin, hzero11⟩ := s.items_7FF
  have hplain {x n : Nat} (hx : x = n % 65536) (h : n ≤ 65535) : x = n := hx.trans (Nat.mod_eq_of_lt (by omega))
  have hwide {x y n : Nat} (hy : y = n / 65536) (hx : x = n % 65536) : y * 65536 + x = n := by omega
  refine ⟨hstate, hparity, hvalid, hline, fun h => hwide (hfreq h) hfreqLow, fun h => hwide (hinc h) hincLow, rfl,
    fun h => hwide (hpb16 h) hpb16Low, fun h => hframe ?_, fun h => hwide (hdistance h) hdistanceLow, hlevel, hlocal,
    hplain hcounter, hplain hremaining, hactive, hsaturated, fun i => ?_, fun h => ?_, fun i => ?_, rfl, hcode, hverdict,
    hplain haccepted, hplain hmissed, hplain hexcused, hplain hcandidates, hlastParity, herror, hplain hshortest,
    hplain hlongest, hplain hlines, hwide (htimeHigh.trans ?_) htimeLow, hlatchValid, hlatchState, hlatchLine,
    hlatchLocal, rfl, hseq, fun h => horigin (Origin.code_le h), ?_, ?_⟩
  · cases hn : s.raster.frameLen with
    | none => exact Nat.zero_le _
    | some n => exact h n hn
  · fin_cases i
    · exact hmoving0
    · exact hmoving1
    · exact hmoving2
    · exact hmoving3
  · have hitem := hcue (lastCueCode_le h)
    cases hn : s.cue.lastCue <;> rw [hn] at hitem <;> exact hitem
  · fin_cases i
    · exact hramp0
    · exact hramp1
    · exact hramp2
    · exact hramp3
  · exact Nat.mod_eq_of_lt (by have := s.cue.latch.time.isLt; omega)
  · exact Prod.ext hzero1 (Prod.ext hzero2 (Prod.ext hzero3 (Prod.ext hzero4 (Prod.ext hzero5 hzero6))))
  · exact Prod.ext hzero7 (Prod.ext hzero8 (Prod.ext hzero9 (Prod.ext hzero10 hzero11)))

end Sys2Proof.Machine
end

section
/-! Display fetches. -/

namespace Sys2Proof.Machine

variable {s : State}

/-! ### The key record of a fetch (R112, R118, R119) -/

theorem pixelIndex_eq (w : Word) {i : Nat} (hi : i ≤ 3) : pixelIndex w i = w.toNat / 16 ^ (3 - i) % 16 := by
  have hpow : 2 ^ (12 - 4 * i) = 16 ^ (3 - i) := by
    rw [show (16 : Nat) = 2 ^ 4 from rfl, ← pow_mul]
    congr 1
    omega
  unfold pixelIndex bits
  rw [hpow]
  rfl

/-- A record of four cells is empty exactly where each of them is. -/
theorem KeyRecord.isEmpty_iff (first : Int) (a b c d : Option KeyCell) :
    (KeyRecord.mk first #v[a, b, c, d]).isEmpty = true ↔ a = none ∧ b = none ∧ c = none ∧ d = none := by
  simp [KeyRecord.isEmpty]

/-- A fetch judged below the last count (R112, R119). -/
theorem State.judgeFetch_of_lt {w : Word} {first : Int} {a b c d : Option KeyCell} (h : s.keyer.fetchCount < 1023)
    (hr : s.fetchRecord w = { first := first, cells := #v[a, b, c, d] }) :
    s.judgeFetch w = { s with keyer := { s.keyer with
      fetchCount := s.keyer.fetchCount + 1
      delay :=
        if (a = none ∧ b = none ∧ c = none ∧ d = none) ∨ 24 ≤ s.keyer.delay.length then s.keyer.delay
        else s.keyer.delay ++ [{ first := first, cells := #v[a, b, c, d] }] } } := by
  unfold State.judgeFetch State.onKeyer
  rw [if_pos h]
  dsimp only
  rw [hr]
  congr 2
  refine if_congr ?_ rfl rfl
  rw [Bool.or_eq_true, decide_eq_true_iff, KeyRecord.isEmpty_iff]

/-- The cycle of a fetch passes, and in a read DRAM's word is received (R159, log 42). -/
theorem State.fetchCycle_eq (a : Addr) (w : FetchWord) (s : State) : s.fetchCycle a w = { s with bus :=
    if w.write then { s.bus with toDram := some (.fetchWrite a w.word w.lanes) }
    else { s.bus with toDram := some (.fetch a w.lanes), readData := w.word } } := by
  unfold State.fetchCycle fetchPassed
  cases w.write <;> rfl

theorem exec_displayFetch (hs : s.Ready) (a : Addr) (w : FetchWord) :
    exec (.displayFetch a w) s = .next ((s.fetchCycle a w).judgeFetch w.word).drive := by
  rw [exec_unowed (c := .displayFetch a w) ⟨nofun, nofun⟩ hs.1]
  show Host.Outcome.next ((s.serve.fetchCycle a w).judgeFetch w.word).drive = _
  rw [State.serve_of_headWaits hs.2]

/-- Settles O42. -/
theorem displayFetch : Obligations.DisplayFetch := by
  intro a w s hs u first past cell
  rw [exec_displayFetch hs, State.fetchCycle_eq]
  refine ⟨fun h => ?_, fun h => ?_⟩
  · have hfull : u.judgeFetch w.word = u := if_neg (Nat.not_lt.mpr h)
    exact congrArg (fun x : State => Host.Outcome.next x.drive) hfull
  · have hcell (i : Nat) (hi : i ≤ 3) : u.fetchCell (first + i) (pixelIndex w.word i) = cell i := by
      rw [State.fetchCell_eq u first i, pixelIndex_eq _ hi]
      rfl
    have hrecord : u.fetchRecord w.word = { first := first, cells := #v[cell 0, cell 1, cell 2, cell 3] } := by
      rw [← hcell 0 (by decide), ← hcell 1 (by decide), ← hcell 2 (by decide), ← hcell 3 (by decide),
        Nat.cast_zero, Int.add_zero]
      rfl
    exact congrArg (fun x : State => Host.Outcome.next x.drive) (State.judgeFetch_of_lt (s := u) h hrecord)

end Sys2Proof.Machine
end

section
/-! Carries and local line starts. -/

namespace Sys2Proof.Machine

variable {s : State}

/-! ### The keyer at the end of a dot (R119, R120) -/

/-- The records that remain in the delay line when a dot has ended (R119). -/
theorem Keyer.leave_eq (dot : Nat) (k : Keyer) : k.leave dot = { k with
    delay :=
      if k.span = .begun then k.delay.filter fun r => decide ((dot : Int) < r.first + r.lastPlace + k.colZero)
      else k.delay } := by
  unfold Keyer.leave
  split <;> rfl

/-- The cell presented as a dot begins (R120). -/
theorem Keyer.present_eq (dot : Nat) (k : Keyer) : k.present dot = { k with
    shown :=
      if k.span = .begun then shownAt dot k.colZero k.delay else { key := false, mix := 0 } } := by
  unfold Keyer.present
  by_cases h : k.span = .begun
  · rw [if_pos h, Keyer.cellFor_begun k dot h]
  · rw [if_neg h, Keyer.cellFor_of_not_begun k dot h]
    rfl

/-! ### Carries (R63, R66) -/

/-- Settles O44: a carry at the last dot is the local line start, and any other ends its dot. -/
theorem carryEndsDot : Obligations.CarryEndsDot := by
  intro now s hs
  have hcarry : exec (.synthesiserCarry now) s = .next (s.at now).carry.drive :=
    exec_at (.synthesiserCarry now) (f := State.carry) hs ⟨nofun, nofun⟩ fun _ => rfl
  refine ⟨fun h => ?_, fun h => ?_⟩
  · rw [hcarry, exec_at (.localLineStart now) (f := State.lineStart) hs ⟨nofun, nofun⟩ fun _ => rfl]
    exact congrArg (fun x : State => Host.Outcome.next x.drive) (if_pos h)
  · intro d captured delay
    rw [hcarry]
    have hdot : (s.at now).carry = ((((s.at now).onKeyer (Keyer.leave s.raster.dot)).onRaster Raster.carry).onSynth
        fun y => { y with carryOwed := false }).onKeyer (Keyer.present d) := if_neg (Nat.not_le.mpr h)
    rw [hdot]
    unfold State.onKeyer
    dsimp only
    rw [Keyer.present_eq]
    simp only [State.onSynth, State.onRaster, Keyer.leave_eq]
    rfl

end Sys2Proof.Machine
end

section
/-! The cue unit: the look, and the CUE input. -/

namespace Sys2Proof.Machine

variable {s : State}

/-! ### The look (R140, R141) -/

/-- The entries that fire stand in table order (R141). -/
theorem CueUnit.fired_pairwise (d : Domain) (line : Nat) (p : Parity) (c : CueUnit) :
    ((c.fired d line p).map Prod.snd).Pairwise (· < ·) := by
  have hsub : ((c.fired d line p).map Prod.snd).Sublist ((c.entries.toList.take c.count).zipIdx.map Prod.snd) :=
    List.Sublist.map _ List.filter_sublist
  refine List.Pairwise.sublist hsub ?_
  rw [List.zipIdx_map_snd]
  exact List.pairwise_lt_range'

theorem CueParity.allows_iff (q : CueParity) (p : Parity) : q.allows p = true ↔
    q = .any ∨ (q = .field1 ∧ p = .field1) ∨ (q = .field2 ∧ p = .field2) := by
  cases q <;> simp [CueParity.allows]

/-- When an entry matches a line start (R140). -/
theorem Cue.fits_iff (d : Domain) (line : Nat) (p : Parity) (counter : Nat) (saturated : Bool) (c : Cue) :
    c.fits d line p counter saturated = true ↔ c.enabled = true ∧ c.domain = d ∧ c.line = line ∧
      (c.parity = .any ∨ (c.parity = .field1 ∧ p = .field1) ∨ (c.parity = .field2 ∧ p = .field2)) ∧
      (c.target = none ∨ (c.target = some counter ∧ saturated = false)) := by
  unfold Cue.fits
  rw [Bool.and_eq_true, Bool.and_eq_true, Bool.and_eq_true, Bool.and_eq_true, CueParity.allows_iff, beq_iff_eq, beq_iff_eq,
    and_assoc, and_assoc, and_assoc]
  refine and_congr_right fun _ => and_congr_right fun _ => and_congr_right fun _ => and_congr_right fun _ => ?_
  cases c.target <;> simp

/-- Which entries fire (R140). -/
theorem CueUnit.mem_fired (d : Domain) (line : Nat) (p : Parity) (u : CueUnit) (c : Cue) (i : Nat) :
    (c, i) ∈ u.fired d line p ↔
      i < u.count ∧ u.entries[i]? = some c ∧ c.fits d line p u.counter u.saturated = true := by
  unfold CueUnit.fired
  rw [List.mem_filter, List.mem_zipIdx_iff_getElem?, List.getElem?_take, Vector.getElem?_toList, ← and_assoc]
  refine and_congr_left fun _ => ?_
  by_cases h : i < u.count <;> simp [h]

theorem argUnit_eq {w : Word} {n : Fin 4} (h : n.val = w.toNat / 16384) : argUnit w = n := by
  have hw := w.isLt
  refine Fin.ext (Eq.trans ?_ h.symm)
  show w.toNat / 2 ^ 14 % 2 ^ 2 = _
  omega

theorem argRate_eq (w : Word) : argRate w = w.toNat / 256 % 64 := rfl

theorem argLevel_eq (w : Word) : argLevel w = w.toNat % 256 := by
  show w.toNat / 2 ^ 0 % 2 ^ 8 = _
  omega

/-- Settles O51. -/
theorem cueLook : Obligations.CueLook := by
  refine fun d line p t s => ⟨rfl, s.cue.fired_pairwise d line p, fun c i => ?_, fun c i n rate level hn hr hl => ?_⟩
  · rw [CueUnit.mem_fired, Cue.fits_iff]
  · intro unit
    unfold State.fire
    cases c.action with
    | attend => rfl
    | fade =>
      dsimp only
      rw [argUnit_eq hn, argRate_eq, argLevel_eq, ← hr, ← hl, State.fadeRamp_eq]
      rfl
    | cut =>
      dsimp only
      rw [argUnit_eq hn, argLevel_eq, ← hl]
      rfl
    | showSet =>
      dsimp only
      rw [argUnit_eq hn]
      rfl
    | stopSet => rfl
    | latch => rfl
    | holdKey => rfl
    | freeKey => rfl

/-! ### The CUE input (R104, R153 to R155) -/

theorem State.cueRise_of_not (h : s.cue.filter.accepted = .high ∨ s.cue.filter.ripe s.cueWidth s.timebase = none) :
    s.cueRise = s := by
  unfold State.cueRise
  obtain h | h := h
  · rw [h]
  · rw [h]
    cases s.cue.filter.accepted <;> rfl

theorem State.cueFall_of_not (h : s.cue.filter.accepted = .low ∨ s.cue.filter.ripe s.cueWidth s.timebase = none) :
    s.cueFall = s := by
  unfold State.cueFall
  obtain h | h := h
  · rw [h]
  · rw [h]
    cases s.cue.filter.accepted <;> rfl

/-- The CUE uses of the counter and of the latch record, and the accepted level (R149, R154, R155). -/
def State.pulsed (t : Time) (s : State) : State := { s with cue := { s.cue with
  filter := { accepted := .high, run := none }
  counter := if s.useReset then 0 else s.cue.counter
  saturated := if s.useReset then false else s.cue.saturated
  latch :=
    if s.useLatch then
      { origin := .pulse, time := t, line := s.front.line, lineValid := s.front.lineValid,
        localLine := s.raster.line, loopState := s.loop.state, lastE := s.loop.lastE,
        seqCount := (s.cue.latch.seqCount + 1) % 256 }
    else s.cue.latch } }

/-- The latch record and the chain are of different blocks, so either may be taken first. -/
theorem State.takeLatch_cueAdvance (o : Origin) (t : Time) (s : State) :
    s.cueAdvance.takeLatch o t = (s.takeLatch o t).cueAdvance := by
  unfold State.cueAdvance State.advanceChain
  have htitle : (s.takeLatch o t).title = s.title := by simp
  rw [htitle]
  cases s.title.active with
  | none => rfl
  | some i =>
    dsimp only
    split
    · cases s.title.sets[i].next <;> rfl
    · rfl

theorem State.cueRise_of_ripe {t : Time} (hl : s.cue.filter.accepted = .low)
    (hr : s.cue.filter.ripe s.cueWidth s.timebase = some t) :
    s.cueRise = if s.useAdvance then (s.pulsed t).cueAdvance else s.pulsed t := by
  have hrise : s.cueRise = (s.onCue fun c => { c with filter := .accept .high }).actOnPulse t := by
    unfold State.cueRise
    rw [hl, hr]
  have hcount : (s.onCue fun c => { c with filter := .accept .high }).onCue (CueUnit.countAt s.ringMode 0) =
      { s with cue := { s.cue with filter := { accepted := .high, run := none }, counter := 0, saturated := false } } := by
    unfold State.onCue CueUnit.countAt
    rw [show (!s.ringMode && (0 : Nat) == 65535) = false from Bool.and_false _]
    rfl
  have hpulsed (a : State) (ha : a = if s.useReset then
        (s.onCue fun c => { c with filter := .accept .high }).onCue (CueUnit.countAt s.ringMode 0)
      else s.onCue fun c => { c with filter := .accept .high }) :
      (if s.useLatch then a.takeLatch .pulse t else a) = s.pulsed t := by
    subst ha
    rw [hcount]
    unfold State.pulsed
    cases s.useReset <;> cases s.useLatch <;> rfl
  have hact (a : State) :
      (if s.useLatch then (if s.useAdvance then a.cueAdvance else a).takeLatch .pulse t
        else if s.useAdvance then a.cueAdvance else a) =
      if s.useAdvance then (if s.useLatch then a.takeLatch .pulse t else a).cueAdvance
        else if s.useLatch then a.takeLatch .pulse t else a := by
    cases s.useAdvance with
    | false => rfl
    | true =>
      cases s.useLatch with
      | false => rfl
      | true => exact State.takeLatch_cueAdvance .pulse t a
  rw [hrise, ← hpulsed _ rfl, ← hact]
  rfl

/-- Settles O50. -/
theorem cueInput : Obligations.CueInput := by
  intro now t0 s hs on width late
  have hpulse : exec (.cuePulse now) s = .next (s.at now).cueRise.drive :=
    exec_at (.cuePulse now) (f := State.cueRise) hs ⟨nofun, nofun⟩ fun _ => rfl
  have hfall : exec (.cueFallAccepted now) s = .next (s.at now).cueFall.drive :=
    exec_at (.cueFallAccepted now) (f := State.cueFall) hs ⟨nofun, nofun⟩ fun _ => rfl
  have hlate (h : late) : (s.at now).cue.filter.ripe (s.at now).cueWidth (s.at now).timebase = none := by
    obtain h | ⟨h, hw⟩ := h
    · exact Filter.ripe_of_none h
    · exact Filter.ripe_of_lt h hw
  rw [hpulse, hfall]
  refine ⟨fun h => ?_, fun h => ?_, fun hrun hw => ⟨fun hl => ?_, fun hl => ?_⟩⟩
  · rw [State.cueRise_of_not (s := s.at now) (h.imp_right hlate)]
  · rw [State.cueFall_of_not (s := s.at now) (h.imp_right hlate)]
  · have hripe : (s.at now).cue.filter.ripe (s.at now).cueWidth (s.at now).timebase = some t0 :=
      Filter.ripe_of_le hrun hw
    have haccepted : (s.at now).cue.filter.accepted = .high := hl
    unfold State.cueFall
    rw [haccepted, hripe]
    rfl
  · intro u
    have hripe : (s.at now).cue.filter.ripe (s.at now).cueWidth (s.at now).timebase = some t0 :=
      Filter.ripe_of_le hrun hw
    have hu : (s.at now).pulsed t0 = u := rfl
    rw [State.cueRise_of_ripe (s := s.at now) hl hripe, hu]
    have hset : (s.at now).useAdvance = s.useAdvance := rfl
    have htitle : u.title = s.title := rfl
    rw [hset]
    cases hadvance : s.useAdvance with
    | false =>
      cases s.title.active with
      | none => rfl
      | some i => simp
    | true =>
      unfold State.cueAdvance
      rw [htitle]
      cases ha : s.title.active with
      | none => rfl
      | some i =>
        dsimp only
        rw [State.advanceChain_of_active (s := u) hs.1.2.1 ha, htitle]
        simp only [if_true, true_and]
        split
        · cases s.title.sets[i].next <;> rfl
        · rfl

end Sys2Proof.Machine
end

section
/-! Adopted values and the settings in use. -/

namespace Sys2Proof.Machine

/-! ### Bits and codes of a word -/

theorem bit_eq_decide (w : Word) (i : Nat) : bit w i = decide (w.toNat / 2 ^ i % 2 = 1) :=
  Nat.testBit_eq_decide_div_mod_eq

theorem bit_fifteen (w : Word) : bit w 15 = decide (32768 ≤ w.toNat) := by
  have hw := w.isLt
  rw [bit_eq_decide]
  exact decide_eq_decide.mpr (by omega)

theorem word_eq_iff (w : Word) {n : Nat} (hn : n < 65536) : w = BitVec.ofNat 16 n ↔ w.toNat = n := by
  rw [← BitVec.toNat_inj, BitVec.toNat_ofNat, Nat.mod_eq_of_lt (by omega)]

theorem decodeNext_eq (code : Nat) : (decodeNext code).map Fin.val = if code < 4 then some code else none := by
  unfold decodeNext
  split <;> rfl

theorem decodeDwellMode_eq (code : Nat) :
    decodeDwellMode code = if code = 0 then .fields else if code = 1 then .cue else .hold := by
  match code with
  | 0 => rfl
  | 1 => rfl
  | n + 2 => rfl

theorem decodeMode_eq (code : Nat) :
    decodeMode code = if code = 1 then .indexKey else if code = 2 then .matte else .opaqueMode := by
  match code with
  | 0 => rfl
  | 1 => rfl
  | 2 => rfl
  | n + 3 => rfl

theorem decodeDomain_eq (code : Nat) : decodeDomain code = if code = 1 then .broadcast else .localLines := by
  match code with
  | 0 => rfl
  | 1 => rfl
  | n + 2 => rfl

theorem decodeCueParity_eq (code : Nat) :
    decodeCueParity code = if code = 1 then .field1 else if code = 2 then .field2 else .any := by
  match code with
  | 0 => rfl
  | 1 => rfl
  | 2 => rfl
  | n + 3 => rfl

theorem decodeAction_eq {code : Nat} (h : code < 16) : decodeAction code =
    ([Action.attend, .fade, .cut, .showSet, .stopSet, .latch, .holdKey, .freeKey][code]?).getD .attend := by
  interval_cases code <;> rfl

theorem bits_low (w : Word) (n : Nat) : bits w 0 n = w.toNat % 2 ^ n := by
  unfold bits
  rw [pow_zero, Nat.div_one]

/-- The live window of a record (R95, 11.3). -/
theorem decodeWindow_spec (p : Vector Word 256) (i : Nat) :
    (decodeWindow p i).enabled = decide (32768 ≤ numAt p i) ∧
      (decodeWindow p i).mode = (if numAt p i / 256 % 8 = 1 then .indexKey
        else if numAt p i / 256 % 8 = 2 then .matte else .opaqueMode) ∧
      (decodeWindow p i).keyIndex = min 15 (numAt p i % 256) ∧
      (match (decodeWindow p i).source with
        | .ramp r => r.val = numAt p i / 4096 % 8
        | .fixed => 4 ≤ numAt p i / 4096 % 8) := by
  refine ⟨bit_fifteen _, decodeMode_eq _, ?_, ?_⟩
  · show min 15 (bits _ 0 8) = _
    rw [bits_low]
    rfl
  · show (match decodeSource (numAt p i / 4096 % 8) with
      | .ramp r => r.val = numAt p i / 4096 % 8
      | .fixed => 4 ≤ numAt p i / 4096 % 8)
    unfold decodeSource
    by_cases h : numAt p i / 4096 % 8 < 4
    · rw [dif_pos h]
    · rw [dif_neg h]
      exact Nat.not_lt.mp h

/-- The live entry of a pending table (R136, 11.4). -/
theorem decodeCue_spec (c : Vector Word 164) (i : Nat) :
    (decodeCue c i).enabled = decide (32768 ≤ numAt c (5 + 4 * i)) ∧
      (decodeCue c i).target =
        (if numAt c (5 + 4 * i) / 16384 % 2 = 1 then some (numAt c (6 + 4 * i)) else none) ∧
      (decodeCue c i).action = ([Action.attend, .fade, .cut, .showSet, .stopSet, .latch, .holdKey,
        .freeKey][numAt c (5 + 4 * i) % 16]?).getD .attend := by
  refine ⟨bit_fifteen _, ?_, ?_⟩
  · show (if bit _ 14 = true then _ else _) = _
    rw [bit_eq_decide]
    simp only [decide_eq_true_iff]
    rfl
  · show decodeAction (bits _ 0 4) = _
    rw [bits_low]
    exact decodeAction_eq (Nat.mod_lt _ (by decide))

/-! ### Settings in their ranges (R181) -/

/-- A clamp brings a value into its range from the end it lies beyond. -/
theorem clamp_eq {lo hi : Nat} (h : lo ≤ hi) (n : Nat) :
    clamp lo hi n = if n < lo then lo else if hi < n then hi else n := by
  unfold clamp
  split
  · omega
  · split <;> omega

theorem clamp_zero (hi n : Nat) : clamp 0 hi n = min hi n := Nat.zero_max _

/-- Settles O49: each decoded item, and each setting with its range. -/
theorem adoptedValues : Obligations.AdoptedValues := by
  intro p q c
  refine ⟨fun i => ?_, fun i => ?_, fun i => ?_, fun i => ?_, fun s => ?_⟩
  · refine ⟨decodeNext_eq _, decodeDwellMode_eq _, max_one_eq_ite _, fun j => ?_⟩
    fin_cases j <;> rfl
  · obtain ⟨henabled, hmode, hindex, hsource⟩ := decodeWindow_spec p i
    exact ⟨henabled, hmode, hindex, rfl, hsource, rfl⟩
  · refine ⟨?_, rfl⟩
    show max 1 (min 255 (numAt q i)) = _
    split <;> omega
  · obtain ⟨henabled, htarget, haction⟩ := decodeCue_spec c i
    exact ⟨henabled, rfl, htarget, decodeDomain_eq _, decodeCueParity_eq _, haction, rfl⟩
  · intro w x within
    have hwithin {lo hi : Nat} (h : lo ≤ hi) (n : Nat) : clamp lo hi n = within lo hi n := clamp_eq h n
    have hN : s.frameLines = if w 0 = 1 then 525 else 625 :=
      if_congr (word_eq_iff (wordAt s.setup.loop 0) (n := 1) (by decide)) rfl rfl
    have hcode (i : Nat) : (wordAt s.setup.aux i == 1) = decide (x i = 1) := by
      rw [Bool.eq_iff_iff, beq_iff_eq, decide_eq_true_iff]
      exact word_eq_iff _ (by decide)
    refine ⟨hN, hwithin (by decide) _, hwithin (by decide) _, ?_, ?_, hwithin (by decide) _, ?_, ?_, ?_, ?_, ?_, ?_, ?_, ?_⟩
    · rw [State.iMax, hwithin (by decide)]
    · rw [State.fFall, State.fRise, clamp_zero, clamp_zero]
      rfl
    · rw [State.gW, clamp_zero]
    · rw [State.gpPull, State.giPull, State.gpLock, State.giLock, clamp_zero, clamp_zero, clamp_zero, clamp_zero]
    · rw [State.tLock, State.nLock, State.tUnlock, State.nUnlock, clamp_zero, clamp_zero, hwithin (by decide),
        hwithin (by decide)]
    · rw [State.mCoast, State.rReturn, State.hHold, State.jRephase, State.hOff, clamp_zero, hwithin (by decide),
        hwithin (by decide), hwithin (by decide), hwithin (by decide)]
    · rw [State.vOff, State.slewStep, State.slewLimit, clamp_zero, hwithin (by decide), hwithin (by decide)]
    · rw [State.setupOrigin, State.setupColZero, State.backComputer, State.cueWidth, clamp_zero, clamp_zero, clamp_zero,
        hcode]
    · rw [State.useReset, State.useAdvance, State.useLatch, bit_eq_decide, bit_eq_decide, bit_eq_decide, pow_zero,
        Nat.div_one]
      rfl
    · rw [State.ringMode, State.modulus, hcode, hwithin (by decide)]

end Sys2Proof.Machine
end

section
/-! Local line starts. -/

namespace Sys2Proof.Machine

variable {s : State}

/-! ### What a look leaves of the keyer (R138, R144 to R148) -/

/-- The keying line, the delay line and the presented cell of a keyer are those of another. -/
abbrev Keyer.SameLine (k u : Keyer) : Prop := k.span = u.span ∧ k.colZero = u.colZero ∧ k.delay = u.delay

theorem fire_keyer (t : Time) (s : State) (e : Cue × Nat) : (s.fire t e).keyer.SameLine s.keyer := by
  unfold State.fire
  cases e.1.action
  case fade =>
    dsimp only
    rw [State.fadeRamp_eq]
    exact ⟨rfl, rfl, rfl⟩
  all_goals exact ⟨rfl, rfl, rfl⟩

/-- The actions of a look leave the delay line and the keying line. -/
theorem look_keyer (d : Domain) (n : Nat) (p : Parity) (t : Time) (s : State) :
    (s.look d n p t).keyer.SameLine s.keyer := by
  unfold State.look
  generalize s.cue.fired d n p = l
  induction l generalizing s with
  | nil => exact ⟨rfl, rfl, rfl⟩
  | cons e l ih =>
    obtain ⟨hspan, hzero, hdelay⟩ := ih (s.fire t e)
    obtain ⟨hspan', hzero', hdelay'⟩ := fire_keyer t s e
    exact ⟨hspan.trans hspan', hzero.trans hzero', hdelay.trans hdelay'⟩

/-! ### The line start itself (R64, R66 to R68) -/

/-- A local line start as the keyer, the raster counter and the synthesiser take it (R64, R66). -/
def State.wrapped (a : State) : State :=
  ((a.onKeyer (Keyer.leave a.raster.dot)).onRaster (Raster.lineStart a.timebase a.setupDots)).onSynth
    fun y => { y with applied := y.handed, carryOwed := false }

/-- The wrap begins a keying line, or passes one (R120, log 22). -/
theorem Keyer.present_wrap {k u : Keyer} (h : k.SameLine u) :
    Keyer.present 0 { k with span := k.span.atWrap } = { k with
      span := if u.span = .notBegun then .begun else .pastWrap
      shown := if u.span = .notBegun then shownAt 0 u.colZero u.delay else { key := false, mix := 0 } } := by
  obtain ⟨hspan, hzero, hdelay⟩ := h
  rw [Keyer.present_eq, ← hspan, ← hzero, ← hdelay]
  cases k.span <;> rfl

/-- A seek computation in flight counts the line start (R46). -/
theorem State.countSeekLine_eq (s : State) : s.countSeekLine = { s with loop := { s.loop with seek := { s.loop.seek with
    lineStarts := if s.loop.seek.inFlight then s.loop.seek.lineStarts + 1 else s.loop.seek.lineStarts } } } := by
  unfold State.countSeekLine
  cases s.loop.seek.inFlight <;> rfl

/-- The slew that ends at this line start and a LATCH cue that fires at it tie (log 8). -/
theorem State.ties_iff (u : State) : (u.slewEnds && u.latchFires) = true ↔
    u.loop.state = .slew ∧ u.align.choose = 0 ∧
      ∃ e ∈ u.cue.fired .localLines u.raster.line u.localParity, e.1.action = .latch := by
  unfold State.slewEnds State.latchFires
  rw [Bool.and_eq_true, Bool.and_eq_true, beq_iff_eq, beq_iff_eq, List.any_eq_true, and_assoc]
  simp only [beq_iff_eq]

theorem State.handLineStart_of_no_tie {u : State} (hu : s.countSeekLine = u)
    (h : ¬ (u.slewEnds && u.latchFires) = true) : s.handLineStart = u.localLook.slewLine := by
  subst hu
  exact if_neg h

theorem State.handLineStart_of_tie {u : State} (hu : s.countSeekLine = u) (h : (u.slewEnds && u.latchFires) = true) :
    s.handLineStart = u.tie.2.localLook.slewLine ∨ s.handLineStart = u.tie.2.slewLine.localLook := by
  subst hu
  unfold State.handLineStart
  dsimp only
  rw [if_pos h]
  cases s.countSeekLine.tie.1 with
  | true => exact .inl rfl
  | false => exact .inr rfl

/-- A local line start, as the line counter goes to `n` (R64, R66 to R68, R119). -/
theorem State.wrapped_counted {a : State} {n : Nat} (hn : n = a.raster.nextLine) : a.wrapped.countSeekLine = { a with
    raster := { a.raster with
      dot := 0
      line := n
      renumber := false
      lastStart := a.timebase
      lineLen := a.setupDots
      lhs := { before := a.raster.lhs.here, here := false }
      lvs := { before := a.raster.lvs.here, here := false }
      huntDot := false
      lhsSeen := if a.raster.dot + 2 < a.raster.lineLen then false else a.raster.lhsSeen
      lvsSeen := if a.raster.dot + 8 < a.raster.lineLen then false else a.raster.lvsSeen }
    synth := { a.synth with applied := a.synth.handed, carryOwed := false }
    loop := { a.loop with seek := { a.loop.seek with
      lineStarts := if a.loop.seek.inFlight then a.loop.seek.lineStarts + 1 else a.loop.seek.lineStarts } }
    keyer := { a.keyer with delay :=
      if a.keyer.span = .begun then
        a.keyer.delay.filter fun r => decide ((a.raster.dot : Int) < r.first + r.lastPlace + a.keyer.colZero)
      else a.keyer.delay } } := by
  subst hn
  rw [State.countSeekLine_eq]
  unfold State.wrapped State.onKeyer
  rw [Keyer.leave_eq]
  rfl

theorem State.runsPast_iff (s : State) : s.runsPast = true ↔ s.raster.phase = .captured ∧ s.raster.frameLen = none ∧
    s.raster.renumber = false ∧ s.raster.line = 2047 := by
  simp [State.runsPast, and_assoc]

/-- Settles O45: the raster fault, the line start itself, and then the tie of the look and the slew. -/
theorem localLineStart : Obligations.LocalLineStart := by
  intro now a c s hs ha hc parity look shown tie
  have hexec : exec (.localLineStart now) s = .next (s.at now).lineStart.drive :=
    exec_at (.localLineStart now) (f := State.lineStart) hs ⟨nofun, nofun⟩ fun _ => rfl
  have hfault : (if (s.at now).runsPast then (s.at now).rasterFault else s.at now) = a := by
    rw [ha, State.rasterFault_eq]
    exact if_congr (State.runsPast_iff (s.at now)) rfl rfl
  have hcases : ((s.raster.phase = .captured ∧ s.raster.frameLen = none ∧ s.raster.renumber = false ∧
      s.raster.line = 2047) ∧ a = (s.at now).faulted) ∨ a = s.at now := by
    rw [ha]
    split
    next h => exact .inl ⟨h, rfl⟩
    next => exact .inr rfl
  have hcount : a.wrapped.countSeekLine = c := by
    have hline : (if s.raster.renumber = true ∨ s.raster.frameLen = some (s.raster.line + 1) ∨ s.raster.line = 2047 then 0
        else s.raster.line + 1) = a.raster.nextLine := by
      obtain ⟨⟨-, -, -, hl⟩, rfl⟩ | rfl := hcases
      · exact (if_pos (.inr (.inr hl))).trans ((Raster.nextLine_eq _).trans (if_pos (.inr (.inr hl)))).symm
      · exact (Raster.nextLine_eq _).symm
    rw [hc, State.wrapped_counted hline]
    obtain ⟨-, rfl⟩ | rfl := hcases
    · rfl
    · rfl
  obtain ⟨hstate, halign, hcue, hparity, hlast, hspan, hzero, hchoices⟩ : c.loop.state = s.loop.state ∧
      c.align = s.align ∧ c.cue = s.cue ∧ c.localParity = parity ∧ c.raster.lastStart = now ∧
      c.keyer.span = s.keyer.span ∧ c.keyer.colZero = s.keyer.colZero ∧ c.choices = s.choices := by
    rw [hc]
    obtain ⟨-, rfl⟩ | rfl := hcases
    · exact ⟨rfl, rfl, rfl, rfl, rfl, rfl, rfl, rfl⟩
    · exact ⟨rfl, rfl, rfl, rfl, rfl, rfl, rfl, rfl⟩
  have hstart : (s.at now).lineStart =
      a.wrapped.handLineStart.onKeyer fun k => Keyer.present 0 { k with span := k.span.atWrap } := by
    rw [← hfault]
    rfl
  have hties : (c.slewEnds && c.latchFires) = true ↔ tie := by
    rw [State.ties_iff, hstate, halign, hcue, hparity]
  have hlook (x : State) (hr : x.raster = c.raster) : x.localLook = look x := by
    have hp : x.localParity = parity := by
      rw [← hparity]
      simp only [State.localParity, hr]
    unfold State.localLook
    rw [hp, hr, hlast]
  have hshown (x : State) (hx : x.keyer.SameLine c.keyer) :
      (x.onKeyer fun k => Keyer.present 0 { k with span := k.span.atWrap }) = shown x := by
    unfold State.onKeyer
    dsimp only
    rw [Keyer.present_wrap hx, hspan, hzero]
  have hnext : c.tie.2 = { c with choices := s.choices + 1 } := by
    rw [← hchoices]
    rfl
  have hkeep (x : State) (hx : x.keyer = c.keyer) : (look x).keyer.SameLine c.keyer := by
    have h := look_keyer .localLines c.raster.line parity now x
    rw [hx] at h
    exact h
  have hslew (x : State) : x.slewLine.keyer = x.keyer := by simp
  rw [hexec, hstart]
  refine ⟨fun h => ?_, fun h => ?_⟩
  · rw [State.handLineStart_of_no_tie hcount (hties.not.mpr h), hlook c rfl, hshown]
    rw [hslew]
    exact hkeep c rfl
  · rw [← hties] at h
    refine (State.handLineStart_of_tie hcount h).imp (fun hfirst => ?_) fun hfirst => ?_
    · rw [hfirst, hnext, hlook { c with choices := s.choices + 1 } rfl, hshown]
      rw [hslew]
      exact hkeep _ rfl
    · rw [hfirst, hnext, hlook (State.slewLine { c with choices := s.choices + 1 }) (by simp), hshown]
      exact hkeep _ (hslew _)

end Sys2Proof.Machine
end

section
/-! LHS and LVS: the samples, the checks of the raster, capture and measurement. -/

namespace Sys2Proof.Machine

variable {s : State}

/-! ### Sampling (R63, R69) -/

theorem Synth.rises_iff (y : Synth) :
    y.rises = true ↔ 8388608 ≤ y.acc.toNat ∧ y.acc.toNat < 8388608 + y.applied := by
  simp [Synth.rises]

/-! ### FRAME MISMATCH of a captured raster (R77, R173) -/

theorem State.handMismatch_of_captured (h : s.raster.phase = .captured) : s.handMismatch = { s with att := { s.att with
    causes :=
      if s.att.mismatch = false ∧ s.raster.frameLen ≠ some s.frameLines then s.att.causes ||| 0x4000 else s.att.causes
    mismatch := decide (s.raster.frameLen ≠ some s.frameLines) } } := by
  have hoff : decide (s.raster.frameLen ≠ some s.frameLines) =
      decide (s.raster.phase = .captured ∧ s.raster.frameLen ≠ some s.frameLines) := by simp [h]
  rw [State.handMismatch_eq s hoff]
  simp only [decide_eq_true_iff, and_comm]

/-! ### LVS (R71 to R73, R75) -/

theorem State.renumberLine_eq (s : State) : s.renumberLine = { s with raster := { s.raster with
    line := if 0 ≤ s.offset then 0 else s.raster.line
    renumber := if 0 ≤ s.offset then s.raster.renumber else true } } := by
  unfold State.renumberLine State.onRaster
  split <;> rfl

/-- The state in which an LVS of the first field has been noted. -/
def State.oddField (s : State) : State := { s with raster := { s.raster with secondField := false } }

theorem State.takeLvs_of_line_start (h : s.offset.natAbs ≤ 8) : s.takeLvs =
    if s.raster.huntDot = true ∨ s.raster.phase = .hunt then s.oddField
    else if s.raster.phase = .align then s.oddField.capture else s.oddField.checkLvs := by
  have hlvs : s.isLineStartLvs = true := decide_eq_true h
  unfold State.takeLvs
  simp only [hlvs, Bool.not_true, Bool.true_and]
  cases s.raster.huntDot <;> cases s.raster.phase <;> rfl

/-- The line that the LVS begins has become line 0 of a frame of a length, and the raster is captured (R71, R73). -/
def State.framed (length : Option Nat) (s : State) : State := { s with
  raster := { s.raster with
    line := if 0 ≤ s.offset then 0 else s.raster.line
    renumber := if 0 ≤ s.offset then s.raster.renumber else true
    lvsSeen := true
    phase := .captured
    frameLen := length }
  att := { s.att with
    causes := if s.att.mismatch = false ∧ length ≠ some s.frameLines then s.att.causes ||| 0x4000 else s.att.causes
    mismatch := decide (length ≠ some s.frameLines) } }

theorem State.capture_eq (s : State) : s.capture = s.framed none := by
  unfold State.capture
  rw [State.renumberLine_eq, State.handMismatch_of_captured rfl]
  rfl

theorem State.measure_eq {v : Nat} (h : s.raster.phase = .captured) :
    (s.renumberLine.onRaster fun r => { r with frameLen := some v, lvsSeen := true }).handMismatch =
      s.framed (some v) := by
  rw [State.renumberLine_eq, State.handMismatch_of_captured (by exact h)]
  unfold State.framed
  rw [← h]
  rfl

/-- Settles O47: the parity by the offset, and then the phase, the frame length and the line. -/
theorem lvsCapturesAndMeasures : Obligations.LvsCapturesAndMeasures := by
  intro s v r off odd hv renumbered judged
  have hline : odd.lvsLine = v := hv.symm
  refine ⟨fun hfar => ?_, fun hnear hhunt => ?_, fun hnear hdot => ⟨fun hp => ?_, fun hp => ?_⟩⟩
  · have hlvs : s.isLineStartLvs = false := decide_eq_false (Nat.not_le.mpr hfar)
    unfold State.takeLvs
    simp only [hlvs, Bool.false_and]
    rfl
  · rw [State.takeLvs_of_line_start hnear, if_pos hhunt]
    rfl
  · have hdot : s.raster.huntDot = false := hdot
    have hp : s.raster.phase = .align := hp
    rw [State.takeLvs_of_line_start hnear, if_neg (by simp [hdot, hp]), if_pos hp, State.capture_eq]
    rfl
  · have hdot : s.raster.huntDot = false := hdot
    have hp : s.raster.phase = .captured := hp
    rw [State.takeLvs_of_line_start hnear, if_neg (by simp [hdot, hp]), if_neg (by simp [hp])]
    have hodd : s.oddField = odd := rfl
    unfold State.checkLvs
    rw [hodd, hline]
    have hlen : odd.raster.frameLen = r.frameLen := rfl
    rw [hlen]
    refine ⟨fun hnone h0 => ?_, fun hsome h0 => ?_, fun hfail => ?_⟩
    · rw [hnone]
      dsimp only
      rw [if_neg h0, State.measure_eq (s := odd) hp]
      rfl
    · obtain ⟨n, hn⟩ := Option.ne_none_iff_exists'.mp hsome
      rw [hn]
      dsimp only
      rw [if_pos h0]
      rfl
    · obtain ⟨hnone, h0⟩ | ⟨hsome, h0⟩ := hfail
      · rw [hnone]
        dsimp only
        rw [if_pos h0, State.rasterFault_eq]
      · obtain ⟨n, hn⟩ := Option.ne_none_iff_exists'.mp hsome
        rw [hn]
        dsimp only
        rw [if_neg h0, State.rasterFault_eq]

/-! ### LHS (R70, R71, R74, R111) -/

/-- The state in which a high LHS has been sampled (R69). -/
def State.lhsHigh (s : State) : State := { s with raster := { s.raster with lhs := { s.raster.lhs with here := true } } }

theorem State.sampleLhs_of_low (h : ¬ s.synth.rises = true ∨ s.raster.lhs.here = true) : s.sampleLhs = s := by
  unfold State.sampleLhs
  rw [if_neg]
  intro hc
  obtain ⟨hr, hh⟩ := Bool.and_eq_true_iff.mp hc
  exact h.elim (fun hn => hn hr) fun hi => by simp [hi] at hh

theorem State.sampleLhs_of_high (hr : s.synth.rises = true) (hh : s.raster.lhs.here = false) :
    s.sampleLhs = if s.raster.lhs.before then s.lhsHigh else s.lhsHigh.seeLhs := by
  unfold State.sampleLhs
  rw [if_pos (by simp [hr, hh])]
  rfl

theorem State.lhsFails_iff (s : State) : s.lhsFails = true ↔
    s.raster.phase = .captured ∧ (2 < s.offset.natAbs ∨ s.raster.lhsSeen = true) := by
  simp [State.lhsFails]

/-- An LVS in the same dot would fail as well (R73, R75). -/
theorem State.lvsFails_of_captured (h : s.raster.phase = .captured) : s.lvsFails = decide (s.offset.natAbs ≤ 8 ∧
    (s.raster.frameLen = none ∧ s.lvsLine = 0 ∨ s.raster.frameLen ≠ none ∧ s.lvsLine ≠ 0)) := by
  rw [Bool.eq_iff_iff]
  unfold State.lvsFails State.isLineStartLvs
  cases s.raster.frameLen <;> simp [h]

/-- Whether the dot that an LHS has placed is at or past a dot 0 (R70, R71). -/
theorem State.placeLhs_offset (s : State) :
    0 ≤ s.placeLhs.offset ↔ s.lhsSetsDot = true ∨ 0 ≤ s.offset := by
  unfold State.offset State.placeLhs
  cases s.lhsSetsDot with
  | false => simp
  | true => simp [dotOffset]

/-- An LHS placed by the raster counter begins a keying line (R70, R71, R111). -/
theorem State.placeLhs_keyLhs {off : Int} (hoff : s.offset = off) : s.placeLhs.keyLhs = { s with
    raster := { s.raster with
      dot := if s.raster.phase = .hunt ∨ (s.raster.phase = .align ∧ 2 < off.natAbs) then 0 else s.raster.dot
      lhsSeen := true
      phase := if s.raster.phase = .hunt then .align else s.raster.phase }
    keyer := { s.keyer with
      fetchCount := 0, delay := [], origin := s.setupOrigin, colZero := s.setupColZero
      keyLine :=
        if (s.raster.phase = .hunt ∨ (s.raster.phase = .align ∧ 2 < off.natAbs)) ∨ 0 ≤ off then s.raster.line
        else if s.raster.renumber = true ∨ s.raster.frameLen = some (s.raster.line + 1) ∨ s.raster.line = 2047 then 0
        else s.raster.line + 1
      span :=
        if (s.raster.phase = .hunt ∨ (s.raster.phase = .align ∧ 2 < off.natAbs)) ∨ 0 ≤ off then .begun
        else .notBegun } } := by
  subst hoff
  have hsets : s.lhsSetsDot = true ↔ s.raster.phase = .hunt ∨ (s.raster.phase = .align ∧ 2 < s.offset.natAbs) := by
    simp [State.lhsSetsDot]
  have hbegun := s.placeLhs_offset
  rw [hsets] at hbegun
  have hplace : s.placeLhs = { s with raster := { s.raster with
      dot := if s.raster.phase = .hunt ∨ (s.raster.phase = .align ∧ 2 < s.offset.natAbs) then 0 else s.raster.dot
      lhsSeen := true
      phase := if s.raster.phase = .hunt then .align else s.raster.phase } } := by
    unfold State.placeLhs State.onRaster
    simp only [hsets]
  unfold State.keyLhs
  by_cases hb : (s.raster.phase = .hunt ∨ (s.raster.phase = .align ∧ 2 < s.offset.natAbs)) ∨ 0 ≤ s.offset
  · rw [if_pos (hbegun.mpr hb), if_pos hb, if_pos hb, hplace]
    rfl
  · rw [if_neg (hbegun.not.mpr hb), if_neg hb, if_neg hb, Raster.nextLine_eq, hplace]
    rfl

/-! ### The checks of the LHS window and of line zero (R74, R75) -/

theorem State.closeWindow_eq (s : State) : s.closeWindow =
    if (s.raster.lhsMissed = true ∨ s.raster.dot = 2) ∧ s.raster.phase = .captured ∧ s.raster.lhsSeen = false
    then s.faulted else { s with raster := { s.raster with lhsMissed := false } } := by
  unfold State.closeWindow
  rw [State.rasterFault_eq]
  exact if_congr (by simp [and_assoc]) rfl rfl

theorem State.timeoutLvs_eq (s : State) : s.timeoutLvs =
    if (s.raster.lvsMissed = true ∨ s.raster.dot = 8) ∧ s.raster.phase = .captured ∧ s.raster.frameLen ≠ none ∧
        s.raster.line = 0 ∧ s.raster.lvsSeen = false
    then s.faulted else { s with raster := { s.raster with lvsMissed := false } } := by
  unfold State.timeoutLvs
  rw [State.rasterFault_eq]
  exact if_congr (by simp [and_assoc, Option.isSome_iff_ne_none]) rfl rfl

/-- Settles O46: the sample, the check in CAPTURED, and the LHS placed and keyed. -/
theorem lhsAndTheRasterChecks : Obligations.LhsAndTheRasterChecks := by
  intro s hs r rises off line lvsFails x a sets begun next
  have hsample : exec .lhsSeen s = .next s.sampleLhs.drive := exec_unowed (c := .lhsSeen) ⟨nofun, nofun⟩ hs
  have hwindow : exec .lhsWindowClose s = .next s.closeWindow.drive :=
    exec_unowed (c := .lhsWindowClose) ⟨nofun, nofun⟩ hs
  have htimeout : exec .lineZeroLvsTimeout s = .next s.timeoutLvs.drive :=
    exec_unowed (c := .lineZeroLvsTimeout) ⟨nofun, nofun⟩ hs
  have hfail : (if x.lhsFails then x.failLhs else x) = a := by
    by_cases h : r.phase = .captured ∧ (2 < off.natAbs ∨ r.lhsSeen = true)
    · have ha : a = { x.faulted with raster := { x.faulted.raster with huntDot := decide lvsFails } } := if_pos h
      rw [if_pos (x.lhsFails_iff.mpr h), ha]
      unfold State.failLhs
      rw [State.rasterFault_eq, State.lvsFails_of_captured (s := x) h.1]
      rfl
    · have ha : a = x := if_neg h
      rw [if_neg (x.lhsFails_iff.not.mpr h), ha]
  obtain ⟨hdot, hlen, hline, hsetup⟩ : a.raster.dot = r.dot ∧ a.raster.lineLen = r.lineLen ∧ a.raster.line = r.line ∧
      a.setup = s.setup := by
    rw [← hfail]
    split
    · unfold State.failLhs
      rw [State.rasterFault_eq]
      exact ⟨rfl, rfl, rfl, rfl⟩
    · exact ⟨rfl, rfl, rfl, rfl⟩
  have horigin : a.setupOrigin = s.setupOrigin ∧ a.setupColZero = s.setupColZero := by
    simp [State.setupOrigin, State.setupColZero, hsetup]
  have hoff : a.offset = off := by
    unfold State.offset
    rw [hdot, hlen]
    rfl
  have hseen : x.seeLhs = _ := (congrArg (fun u : State => u.placeLhs.keyLhs) hfail).trans (State.placeLhs_keyLhs hoff)
  rw [hsample, hwindow, htimeout, State.closeWindow_eq, State.timeoutLvs_eq]
  refine ⟨fun h => ?_, fun hr hh hb => ?_, fun hr hh hb => ?_, rfl, rfl⟩
  · rw [State.sampleLhs_of_low (h.imp_left (mt s.synth.rises_iff.mp))]
  · rw [State.sampleLhs_of_high (s.synth.rises_iff.mpr hr) hh]
    exact congrArg (fun u : State => Host.Outcome.next u.drive) (if_pos hb)
  · rw [State.sampleLhs_of_high (s.synth.rises_iff.mpr hr) hh]
    have hstep : (if s.raster.lhs.before then x else x.seeLhs) = x.seeLhs := if_neg (by simpa using hb)
    refine congrArg (fun u : State => Host.Outcome.next u.drive) (hstep.trans (hseen.trans ?_))
    rw [hdot, hline, horigin.1, horigin.2]

end Sys2Proof.Machine
end

section
/-! Local field starts. -/

namespace Sys2Proof.Machine

variable {s : State}

/-! ### Sampling (R69, R72) -/

/-- The state in which a high LVS has been sampled (R69). -/
def State.lvsHigh (s : State) : State := { s with raster := { s.raster with lvs := { s.raster.lvs with here := true } } }

theorem State.sampleLvs_of_low (h : ¬ s.synth.rises = true ∨ s.raster.lvs.here = true) : s.sampleLvs = s := by
  unfold State.sampleLvs
  rw [if_neg]
  intro hc
  obtain ⟨hr, hh⟩ := Bool.and_eq_true_iff.mp hc
  exact h.elim (fun hn => hn hr) fun hi => by simp [hi] at hh

theorem State.sampleLvs_of_high (hr : s.synth.rises = true) (hh : s.raster.lvs.here = false) :
    s.sampleLvs = if s.raster.lvs.before then s.lvsHigh else s.lvsHigh.takeLvs.fieldTick := by
  unfold State.sampleLvs
  rw [if_pos (by simp [hr, hh])]
  rfl

/-- An LVS leaves the ramp units as they were (R76). -/
theorem State.takeLvs_ramps (s : State) : s.takeLvs.keyer.ramps = s.keyer.ramps := by
  have hcheck (u : State) : u.checkLvs.keyer.ramps = u.keyer.ramps := by
    unfold State.checkLvs
    repeat' split
    all_goals simp [State.rasterFault_eq, State.faulted, State.renumberLine]
  unfold State.takeLvs
  dsimp only
  split
  · split
    · rfl
    · rw [State.capture_eq]
      rfl
    · rw [hcheck]
      rfl
  · rfl

/-! ### One ramp unit at a local field start (R125, R130) -/

theorem Ramp.arrives_iff (r : Ramp) : r.arrives = true ↔ r.moving = true ∧ ((r.level : Int) - r.target).natAbs ≤ r.rate := by
  unfold Ramp.arrives
  rw [Bool.and_eq_true, Bool.and_eq_true, decide_eq_true_iff, decide_eq_true_iff, and_assoc]
  refine and_congr_right fun _ => ?_
  omega

theorem Ramp.step_eq (r : Ramp) : r.step =
    if r.moving = false then r
    else if ((r.level : Int) - r.target).natAbs ≤ r.rate then { r with level := r.target, moving := false }
    else { r with level := if r.level < r.target then r.level + r.rate else r.level - r.rate } := by
  unfold Ramp.step
  cases hm : r.moving with
  | false => rfl
  | true =>
    by_cases ha : ((r.level : Int) - r.target).natAbs ≤ r.rate
    · simp [ha, r.arrives_iff.mpr ⟨hm, ha⟩]
    · have hno : ¬ r.arrives = true := fun h => ha (r.arrives_iff.mp h).2
      simp only [if_true, if_neg hno, Bool.true_eq_false, if_false, if_neg ha]
      split <;> rfl

/-- A unit arrives where its step stops it (R125). -/
theorem Ramp.arrives_iff_step (r : Ramp) : r.arrives = true ↔ r.moving = true ∧ r.step.moving = false := by
  rw [Ramp.arrives_iff, Ramp.step_eq]
  refine and_congr_right fun hm => ?_
  by_cases ha : ((r.level : Int) - r.target).natAbs ≤ r.rate <;> simp [hm, ha]

/-- A unit before its step: an adoption primes it (R130). -/
def Ramp.primed (adopt : Bool) (rec : RampRecord) (r : Ramp) : Ramp := if adopt then r.prime rec else r

theorem Ramp.primed_of_unstarted (rec : RampRecord) {r : Ramp} {adopt : Bool} (h : adopt = true ∧ r.unstarted = true) :
    r.primed adopt rec =
      { level := rec.level, target := rec.level, rate := r.rate, moving := false, unstarted := false } := by
  obtain ⟨ha, hu⟩ := h
  simp [Ramp.primed, Ramp.prime, ha, hu]

theorem Ramp.primed_of_started (rec : RampRecord) {r : Ramp} {adopt : Bool}
    (h : ¬ (adopt = true ∧ r.unstarted = true)) : r.primed adopt rec = r := by
  unfold Ramp.primed Ramp.prime
  cases adopt with
  | false => rfl
  | true => exact if_neg fun hu => h ⟨rfl, hu⟩

/-- The step of a unit, with its adoption (R125, R130). -/
theorem Ramp.primed_step (adopt : Bool) (rec : RampRecord) (r : Ramp) : (r.primed adopt rec).step =
    if adopt = true ∧ r.unstarted = true then
      ({ level := rec.level, target := rec.level, rate := r.rate, moving := false, unstarted := false } : Ramp)
    else if r.moving = false then r
    else if ((r.level : Int) - r.target).natAbs ≤ r.rate then { r with level := r.target, moving := false }
    else { r with level := if r.level < r.target then r.level + r.rate else r.level - r.rate } := by
  by_cases h : adopt = true ∧ r.unstarted = true
  · rw [Ramp.primed_of_unstarted rec h, if_pos h]
    rfl
  · rw [Ramp.primed_of_started rec h, if_neg h, Ramp.step_eq]

/-- Which units arrive: those that were moving and stand, but for those an adoption has primed (R125). -/
theorem Ramp.primed_arrives_iff (adopt : Bool) (rec : RampRecord) (r : Ramp) : (r.primed adopt rec).arrives = true ↔
    r.moving = true ∧ (r.primed adopt rec).step.moving = false ∧ ¬ (adopt = true ∧ r.unstarted = true) := by
  by_cases h : adopt = true ∧ r.unstarted = true
  · rw [Ramp.primed_of_unstarted rec h]
    simp [Ramp.arrives, h]
  · rw [Ramp.primed_of_started rec h, Ramp.arrives_iff_step]
    simp only [h, not_false_eq_true, and_true]

/-! ### The whole of a local field start (R72, R98, R102, R125, R130, R136, R149) -/

/-- The title engine's live image at a local field start: the pending one, where an adoption is asked for (R98). -/
def Title.atField (t : Title) : Title := if t.adoptRequest then t.adopt else t

/-- The cue unit's live table at a local field start (R136). -/
def CueUnit.atField (adopt : Bool) (c : CueUnit) : CueUnit := if adopt then c.adopt else c

/-- Ramp unit `i` before its step at a local field start (R130). -/
def State.rampAtField (i : Fin 4) (s : State) : Ramp :=
  s.keyer.ramps[i].primed s.title.adoptRequest s.title.atField.ramps[i]

theorem vector_four_eta {α : Type} (v : Vector α 4) : #v[v[0], v[1], v[2], v[3]] = v := by
  ext i hi
  interval_cases i <;> rfl

theorem State.adoptIfAsked_eq (s : State) : s.adoptIfAsked = { s with
    title := s.title.atField
    cue := s.cue.atField s.title.adoptRequest
    keyer := { s.keyer with
      ramps := #v[s.rampAtField 0, s.rampAtField 1, s.rampAtField 2, s.rampAtField 3] } } := by
  unfold State.adoptIfAsked State.rampAtField Title.atField CueUnit.atField Ramp.primed
  cases s.title.adoptRequest with
  | true => rfl
  | false =>
    have heta := vector_four_eta s.keyer.ramps
    exact congrArg (fun v => ({ s with keyer := { s.keyer with ramps := v } } : State)) heta.symm

theorem State.stepRamps_eq (s : State) : s.stepRamps = ({ s with keyer := { s.keyer with
    ramps := #v[s.keyer.ramps[0].step, s.keyer.ramps[1].step, s.keyer.ramps[2].step, s.keyer.ramps[3].step] } } :
      State).withCauses (if ∃ i : Fin 4, s.keyer.ramps[i].arrives = true then 0x8000 else 0) := by
  have hany : (s.keyer.ramps[0].arrives || s.keyer.ramps[1].arrives || s.keyer.ramps[2].arrives ||
      s.keyer.ramps[3].arrives) = decide (∃ i : Fin 4, s.keyer.ramps[i].arrives = true) := by
    rw [Bool.eq_iff_iff]
    simp [Fin.exists_fin_succ, or_assoc]
  unfold State.stepRamps
  dsimp only
  rw [hany, State.raiseIf_eq]
  rfl

theorem State.stepCounter_eq (s : State) : s.stepCounter = ({ s with cue := { s.cue with
    counter := if s.ringMode then (if s.modulus ≤ s.cue.counter + 1 then 0 else s.cue.counter + 1)
      else min 65535 (s.cue.counter + 1)
    saturated := decide (s.ringMode = false ∧ 65534 ≤ s.cue.counter) } } : State).withCauses
      (if s.ringMode = false ∧ s.cue.counter = 65534 then 0x0200 else 0) := by
  unfold State.stepCounter
  dsimp only
  cases hr : s.ringMode with
  | true =>
    simp only [if_true, Bool.true_eq_false, false_and, decide_false, if_false, State.withCauses_zero]
    rfl
  | false =>
    have hfull : (min 65535 (s.cue.counter + 1) == 65535) = decide (65534 ≤ s.cue.counter) := by
      rw [Bool.eq_iff_iff, beq_iff_eq, decide_eq_true_iff]
      omega
    have hcount : (s.cue.counter == 65534) = decide (s.cue.counter = 65534) := rfl
    rw [hcount, State.raiseIf_eq]
    simp only [State.onCue, CueUnit.countAt, hfull, Bool.false_eq_true, if_false, true_and]
    rfl

/-- The state at a local field start once any adoption and the dwell have been taken (R98, R102, R130, R136). -/
def State.atField (s : State) : State := { s with
  title := s.title.atField.countDwell
  cue := s.cue.atField s.title.adoptRequest
  keyer := { s.keyer with
    ramps := #v[s.rampAtField 0, s.rampAtField 1, s.rampAtField 2, s.rampAtField 3] } }

/-- A local field start of the title side, with nothing unfolded of the parts (R72). -/
theorem State.fieldTick_eq (s : State) : s.fieldTick = { s with
    title := s.title.atField.countDwell
    cue := { s.cue.atField s.title.adoptRequest with
      counter := if s.ringMode then (if s.modulus ≤ s.cue.counter + 1 then 0 else s.cue.counter + 1)
        else min 65535 (s.cue.counter + 1)
      saturated := decide (s.ringMode = false ∧ 65534 ≤ s.cue.counter) }
    keyer := { s.keyer with ramps := #v[(s.rampAtField 0).step, (s.rampAtField 1).step, (s.rampAtField 2).step,
      (s.rampAtField 3).step] }
    att := { s.att with causes := s.att.causes |||
      (if ∃ i : Fin 4, (s.rampAtField i).arrives = true then 0x8000 else 0) |||
      (if s.ringMode = false ∧ s.cue.counter = 65534 then 0x0200 else 0) } } := by
  have hcounter (b : Bool) : (s.cue.atField b).counter = s.cue.counter := by cases b <;> rfl
  have hadopt : s.adoptIfAsked.onTitle Title.countDwell = s.atField := by
    rw [State.adoptIfAsked_eq]
    rfl
  have harrives : (∃ i : Fin 4, s.atField.keyer.ramps[i].arrives = true) ↔
      ∃ i : Fin 4, (s.rampAtField i).arrives = true := by
    simp [State.atField, Fin.exists_fin_succ]
  unfold State.fieldTick
  rw [hadopt, State.stepRamps_eq, State.stepCounter_eq, if_congr harrives rfl rfl, ← hcounter s.title.adoptRequest]
  rfl

/-- What an adoption leaves of the title engine, and the flag clear (R98, R99). -/
theorem Title.atField_frame (t : Title) : t.atField.pendingSets = t.pendingSets ∧
    t.atField.pendingRamps = t.pendingRamps ∧ t.atField.active = t.active ∧ t.atField.adoptRequest = false ∧
    t.atField.remaining = t.remaining ∧ t.atField.dwellOwed = t.dwellOwed := by
  unfold Title.atField
  cases h : t.adoptRequest with
  | true => exact ⟨rfl, rfl, rfl, rfl, rfl, rfl⟩
  | false => exact ⟨rfl, rfl, rfl, h, rfl, rfl⟩

theorem Title.atField_sets (t : Title) (i : Fin 4) : t.atField.sets[i] =
    if t.adoptRequest then decodeSet t.pendingSets (64 * i.val) else t.sets[i] := by
  unfold Title.atField
  cases t.adoptRequest with
  | true => fin_cases i <;> rfl
  | false => rfl

theorem Title.atField_ramps (t : Title) (i : Fin 4) : t.atField.ramps[i] =
    if t.adoptRequest then decodeRamp t.pendingRamps (2 * i.val) else t.ramps[i] := by
  unfold Title.atField
  cases t.adoptRequest with
  | true => fin_cases i <;> rfl
  | false => rfl

/-- The dwell moves the remaining dwell and the mark, and nothing else (R102). -/
theorem Title.countDwell_eq (t : Title) : t.countDwell = { t with
    remaining := t.countDwell.remaining, dwellOwed := t.countDwell.dwellOwed } := by
  unfold Title.countDwell
  split
  · rfl
  · split <;> rfl

theorem Title.countDwell_dwell (t : Title) (h : t.dwellOwed = false) :
    (t.countDwell.remaining, t.countDwell.dwellOwed) =
      (match t.active with
      | none => (t.remaining, false)
      | some i =>
        if t.sets[i].mode = .fields then (t.remaining - 1, decide (t.remaining ≤ 1)) else (t.remaining, false)) := by
  unfold Title.countDwell
  cases t.active with
  | none => rw [h]
  | some i =>
    dsimp only
    split
    · rfl
    · rw [h]

theorem CueUnit.atField_eq (adopt : Bool) (c : CueUnit) : c.atField adopt = { c with
    count := if adopt then min 40 (numAt c.pendingTable 0) else c.count, entries := (c.atField adopt).entries } := by
  cases adopt <;> rfl

theorem CueUnit.atField_entries (adopt : Bool) (c : CueUnit) (i : Fin 40) : (c.atField adopt).entries[i] =
    if adopt then decodeCue c.pendingTable i.val else c.entries[i] := by
  cases adopt with
  | false => rfl
  | true => simp [CueUnit.atField, CueUnit.adopt]

/-- Settles O48: an LVS seen is a local field start of the title side, whose parts stand on their own. -/
theorem localFieldStart : Obligations.LocalFieldStart := by
  intro x u s hs hx hu rises
  have hexec : exec .localFieldStart s = .next s.sampleLvs.drive :=
    exec_unowed (c := .localFieldStart) ⟨nofun, nofun⟩ hs
  have hhigh : s.lvsHigh = x := hx.symm
  rw [hexec]
  refine ⟨fun h => ?_, fun hr hh hb => ?_, fun hr hh hb => ?_⟩
  · rw [State.sampleLvs_of_low (h.imp_left (mt s.synth.rises_iff.mp))]
  · rw [State.sampleLvs_of_high (s.synth.rises_iff.mpr hr) hh, if_pos hb, hhigh]
  · have htitle : u.title = s.title := by rw [hu, hx]; simp
    have hcue : u.cue = s.cue := by rw [hu, hx]; simp
    have hsetup : u.setup = s.setup := by rw [hu, hx]; simp
    have hramps : u.keyer.ramps = s.keyer.ramps := by rw [hu, State.takeLvs_ramps, hx]
    have hring : u.ringMode = s.ringMode := State.ringMode_congr (by rw [hsetup])
    have hmodulus : u.modulus = s.modulus := State.modulus_congr (by rw [hsetup])
    have hramp (i : Fin 4) : u.rampAtField i = s.rampAtField i := by
      unfold State.rampAtField
      rw [htitle, hramps]
    rw [State.sampleLvs_of_high (s.synth.rises_iff.mpr hr) hh, if_neg (by simp [hb]), hhigh, ← hu]
    obtain ⟨hpsets, hpramps, hactive, hadopt, hremaining, howed⟩ := s.title.atField_frame
    have hdwell := s.title.atField.countDwell_eq
    have hstep (i : Fin 4) : u.fieldTick.keyer.ramps[i] = (s.rampAtField i).step := by
      rw [State.fieldTick_eq]
      fin_cases i <;> exact congrArg Ramp.step (hramp _)
    have htick : u.fieldTick.title = { s.title.atField with
        remaining := s.title.atField.countDwell.remaining, dwellOwed := s.title.atField.countDwell.dwellOwed } := by
      rw [State.fieldTick_eq, htitle, ← Title.countDwell_eq]
    have hunit : u.fieldTick.cue = { s.cue.atField s.title.adoptRequest with
        counter := if s.ringMode then (if s.modulus ≤ s.cue.counter + 1 then 0 else s.cue.counter + 1)
          else min 65535 (s.cue.counter + 1)
        saturated := decide (s.ringMode = false ∧ 65534 ≤ s.cue.counter) } := by
      rw [State.fieldTick_eq, htitle, hcue, hring, hmodulus]
    have hcauses : u.fieldTick.att.causes = u.att.causes |||
        (if ∃ i : Fin 4, (s.rampAtField i).arrives = true then 0x8000 else 0) |||
        (if s.ringMode = false ∧ s.cue.counter = 65534 then 0x0200 else 0) := by
      rw [State.fieldTick_eq, hcue, hring]
      simp only [hramp]
    have hdone : (∃ i : Fin 4, (s.rampAtField i).arrives = true) ↔ ∃ i : Fin 4, s.keyer.ramps[i].moving = true ∧
        u.fieldTick.keyer.ramps[i].moving = false ∧
        ¬ (s.title.adoptRequest = true ∧ s.keyer.ramps[i].unstarted = true) := by
      refine exists_congr fun i => ?_
      rw [hstep i]
      exact Ramp.primed_arrives_iff _ _ _
    refine ⟨u.fieldTick, rfl, ?_, ?_, fun i => ?_, fun i => ?_, ?_, fun i => ?_, ?_, fun i => ?_, ?_⟩
    · rw [State.fieldTick_eq]
    · rw [htick]
      exact Prod.ext hpsets (Prod.ext hpramps (Prod.ext hactive hadopt))
    · rw [htick]
      exact s.title.atField_sets i
    · rw [htick]
      exact s.title.atField_ramps i
    · have hdwell := s.title.atField.countDwell_dwell (howed.trans hs.2.1)
      rw [hactive, hremaining] at hdwell
      rw [htick]
      exact hdwell
    · intro r
      rw [hstep i, htick]
      exact Ramp.primed_step _ _ _
    · rw [hunit, CueUnit.atField_eq]
    · rw [hunit]
      exact s.cue.atField_entries _ i
    · rw [hcauses, if_congr hdone rfl rfl]

end Sys2Proof.Machine
end
